-- ==== Sys2Proof/Word.lean ====
section
/-! DEFINITION. The word types: a byte of the link, a 16-bit field, a 32-bit count. -/

namespace Sys2Proof

/-- One data byte of the link (R169). -/
abbrev Byte := BitVec 8

/-- A two-byte field that wraps at 65536: a sequence number (R5). -/
abbrev Half := BitVec 16

/-- A 32-bit count that wraps: position, milliseconds, deadlines (R128 to R130). -/
abbrev Count := BitVec 32

end Sys2Proof
end

