-- ==== Sys2Proof/Syntax.lean ====
section
/-! DEFINITION. The commands: one constructor per row of spec/opcode_table.json, and their operand types. -/

namespace Sys2Proof

/-- A spindle, a feed profile, or a place of the spindle map, numbered 1 to 4 (R84 to R86). -/
inductive Idx4 where
  | i1 | i2 | i3 | i4
deriving DecidableEq, Repr

/-- The three stations (R140). -/
inductive Station where
  | punch | drill | closer
deriving DecidableEq, Repr

/-- The four segments (R19, R131). -/
inductive Segment where
  | leadIn | mid | runOut | drop
deriving DecidableEq, Repr

/-- The three landing sensors (R14). -/
inductive LandingSensor where
  | pocketA | pocketB | reject
deriving DecidableEq, Repr

/-- What the coil monitor can find wrong with a coil (R67, R72). -/
inductive CoilFault where
  | openCoil | shortCoil
deriving DecidableEq, Repr

/-- An encoder transition (R129). -/
inductive Transition where
  | rising | falling
deriving DecidableEq, Repr

/-- A spindle's two sensors (R84). -/
inductive SpindleSensor where
  | down | up
deriving DecidableEq, Repr

/-- The symbol that ends the reception of a ticket: its END, or one that breaks it off (R170). -/
inductive TicketClose where
  | endSymbol | idleSymbol | invalidSymbol
deriving DecidableEq, Repr

/-- A symbol of STRAY_SYMBOL (R170). -/
inductive StraySymbol where
  | endSymbol
  | dataByte (b : Byte)
  | invalidSymbol
deriving DecidableEq, Repr

/-- The commands of the part. A request row is the Command Unit's execution of the request at the head of the command
list: the request's fields stand in that ticket's body (R178, R189), so the row itself carries none. -/
inductive Instr where
  -- requests (R179)
  | readStatus
  | readQueue
  | readBook
  | readPattern
  | readDrill
  | readCloser
  | readHalt
  | run
  | stop
  | halt
  | resume
  | clearFaults
  | reset
  | loadPattern
  | clearPattern
  | setPunch
  | setProfile
  | mapSpindles
  | setCloser
  | setTimebase
  | startTimebase
  | stations
  | service
  | setLine
  | amendBook
  | cancelBook
  | unknownRequest
  | resetCompletes
  -- the link (R169 to R181)
  | ticketReceived (bytes : List Byte) (close : TicketClose)
  | straySymbol (symbol : StraySymbol)
  | ticketClassified
  | sheetAdmitted
  | downstreamHold (asserted : Bool)
  | transmitBegin
  | ticketSent
  -- sheet sensors (R9 to R14)
  | entrySensor (double : Bool)
  | punchRegister
  | drillRegister
  | exitSensor
  | landing (sensor : LandingSensor)
  -- punch (R72 to R77); coils 1 to 48 are the pins, 49 is the notch
  | latchCheckReport (notOk : List (Nat × CoilFault))
  | overCurrent (coil : Nat)
  | ramDown
  | ramUp
  | ramStall
  | ramStuck
  -- drill (R90 to R93)
  | spindleDown (spindle : Idx4)
  | dwellRunsOut (spindle : Idx4)
  | plungeWindowRunsOut (spindle : Idx4)
  | spindleUp (spindle : Idx4)
  | drillStuck (spindle : Idx4)
  -- closer (R107 to R115)
  | clampDone
  | hangerIn
  | hangerEmpty
  | loopPulse
  | cutDone
  | closeDone
  | ejectDone
  | dumpDone
  | closerWindowRunsOut
  | dumpWindowRunsOut
  -- timebase (R126 to R132)
  | referenceTick (good : Bool)
  | referenceGap
  | encoderEdge (transition : Transition)
  | jam (segment : Segment)
  -- supervisor inputs (R144 to R147, R161)
  | guardOpen (station : Station)
  | guardClose (station : Station)
  | supplyLow
  | driverShutdown
  | driverHot
  | externalStop
  -- resets (R186): the operand is what the five address pins give when they are sampled (R173)
  | powerOn (pins : BitVec 5)
  | hardReset (pins : BitVec 5)
  -- levels
  | dieIdentityChange (lines : BitVec 3)
  | supplyLowInactive
  | driverShutdownInactive
  | driverHotInactive
  | stopInputInactive
  | hangerEmptyClears
  | ramUpLevelClears
  | spindleLevelClears (spindle : Idx4) (sensor : SpindleSensor)
  | startReceived
deriving DecidableEq, Repr

end Sys2Proof
end

