-- ==== Sys2Proof/Config.lean ====
section
/-! DEFINITION. What the silicon fixes: the capacities, the identity and the codes of kinds (00 section 1.3, R187).
The spec leaves no result of a command undefined, so there is no free value here. -/

namespace Sys2Proof.Config

/-- In-flight queue entries (R1). -/
def queueSize : Nat := 24
/-- Receive buffer places (R171). -/
def rxPlaces : Nat := 4
/-- Output list slots (R175). -/
def outSlots : Nat := 8
/-- Command list slots (R178). -/
def cmdSlots : Nat := 4
/-- Book table records (R28). -/
def bookRecords : Nat := 12
/-- Longest ticket body (R169). -/
def maxBody : Nat := 250
/-- Header, longest body and CRC (R170). -/
def maxTicketBytes : Nat := 257
/-- Part code and silicon revision (R151). -/
def partCode : Nat := 3160
def revision : Nat := 1
/-- The notch's number behind the 48 pins (R67, R189). -/
def notchCoil : Nat := 49
/-- Consecutive good ticks that make the reference stable (R126). -/
def stableRun : Nat := 64

/-- Ticket kinds (R187). -/
def kindSheet : Byte := 1
def kindSheetReport : Byte := 2
def kindRequest : Byte := 3
def kindReply : Byte := 4
def kindBookDone : Byte := 5
def kindHaltNotice : Byte := 6

end Sys2Proof.Config
end

