-- ==== Sys2Proof/Machine/State.lean ====
section
/-! DEFINITION. The state of the part, block by block as 00 section 1.2 lists them, as plain data, and State.reset.
Outputs and counts that follow from other state (transport run, feed hold, the fault line, the WAITING count, the
deadline slots) are computed in Flags.lean and Ops.lean and stored nowhere. -/

namespace Sys2Proof.Machine

/-- Four like things, one for each spindle or profile (R84, R85). -/
structure Quad (α : Type) where
  q1 : α
  q2 : α
  q3 : α
  q4 : α
deriving DecidableEq, Repr

/-! ### Tickets -/

/-- A ticket that passed the checks: header fields and body; the body length and the CRC follow from them (R187). -/
structure Ticket where
  kind  : Byte
  dest  : Byte
  flags : Byte
  tag   : Byte
  body  : List Byte
deriving DecidableEq, Repr

/-- What the link in is in the middle of (R170, R171). -/
inductive Reception where
  /-- no ticket is under reception -/
  | outside
  /-- a START was refused because four places hold complete tickets; its symbols are dropped up to END -/
  | refused
  /-- a ticket is under reception; the bytes since its START -/
  | inside (bytes : List Byte)
deriving DecidableEq, Repr

/-- A place of the receive buffer that holds a complete ticket; turned: a sheet ticket made a report in place (R5). -/
structure RxItem where
  ticket : Ticket
  turned : Bool
deriving DecidableEq, Repr

/-- An item of the output list or the command list, with its fence mark: the serial number of an entry (R23, R177). -/
structure Item where
  ticket : Ticket
  mark   : Option Nat
deriving DecidableEq, Repr

/-- Whose ticket the transmitter is sending (R172, R181). -/
inductive Owner where
  | haltNotice | report | bookDone | output
deriving DecidableEq, Repr

structure Sending where
  owner  : Owner
  ticket : Ticket
deriving DecidableEq, Repr

/-- The Ticket Port (R169 to R182). -/
structure Port where
  rx          : Reception
  rxBuf       : List RxItem
  outList     : List Item
  linkError   : Bool
  unitAddress : Nat
  downHold    : Bool
  sending     : Option Sending
deriving DecidableEq, Repr

/-- A RESET in progress (R183, R184): its completion point by serial numbers, and the counts for its reply. -/
structure ResetProgress where
  entry    : Option Nat
  record   : Option Nat
  reserved : Bool
  flushed  : Nat
  ended    : Nat
deriving DecidableEq, Repr

/-- The Command Unit (R178). -/
structure CommandUnit where
  list     : List Item
  resetting : Option ResetProgress
deriving DecidableEq, Repr

/-! ### The in-flight queue -/

inductive Stage where
  | waiting | entered | atPunch | toDrill | atDrill | toGate | atGate | dropping | done
deriving DecidableEq, Repr

inductive VoidReason where
  | badField | noHeader | leafOrder | noBook | duplicateBook | tableFull | wireMismatch | noPattern
deriving DecidableEq, Repr

inductive DeadlineKind where
  | position | time
deriving DecidableEq, Repr

structure Deadline where
  kind  : DeadlineKind
  count : Count
deriving DecidableEq, Repr

inductive Dest where
  | pocketA | pocketB | reject
deriving DecidableEq, Repr

inductive PunchResult where
  | struck | partStruck | skipped | notRequired
deriving DecidableEq, Repr

inductive DrillResult where
  | drilled | partDrilled | skipped | notRequired
deriving DecidableEq, Repr

inductive SkipReason where
  | stationOff | dieMismatch | pinFault | bookSpoiled | voidEntry
deriving DecidableEq, Repr

inductive Outcome where
  | gathered | diverted | lost | flushed
deriving DecidableEq, Repr

inductive Role where
  | cover | leaf | board
deriving DecidableEq, Repr

inductive Face where
  | up | down
deriving DecidableEq, Repr

/-- One queue entry (R2). Role, face and pattern are kept as the byte values received (R2, R188). -/
structure Entry where
  id              : Nat
  ticket          : Ticket
  sequence        : Half
  book            : Nat
  leaf            : Nat
  role            : Nat
  face            : Nat
  pattern         : Nat
  voidReason      : Option VoidReason
  stage           : Stage := .waiting
  deadline        : Option Deadline := none
  destination     : Option Dest := none
  punchResult     : Option PunchResult := none
  punchSkip       : Option SkipReason := none
  faultedPins     : List Nat := []
  drillResult     : Option DrillResult := none
  drillSkip       : Option SkipReason := none
  faultedSpindles : List Idx4 := []
  outcome         : Option Outcome := none
  fenceMark       : Bool := false
deriving DecidableEq, Repr

/-- The Sheet Tracker: queue, expected sequence, gate output, and the model's next serial number. -/
structure Tracker where
  queue    : List Entry
  expected : Option Half
  gate     : Dest
  nextId   : Nat
deriving DecidableEq, Repr

/-! ### Patterns -/

inductive DieKind where
  | any
  | kind (n : Nat)
deriving DecidableEq, Repr

/-- What a LOADED entry holds (R52, R53). -/
structure PatternDef where
  die   : DieKind
  pins  : List Nat
  notch : Bool
  drill : List Idx4
deriving DecidableEq, Repr

/-- One entry of the pattern table: EMPTY is `loaded = none` (R53). -/
structure Pattern where
  loaded   : Option PatternDef
  useCount : Nat
deriving DecidableEq, Repr

/-! ### Books -/

inductive BookState where
  | opened | filled | ready | closing | spoiled | ended
deriving DecidableEq, Repr

inductive SpoilReason where
  | sheetFault | voidLeaf | shortBook | lineHalt | closerFault | cancelled | flushed | linkReset
deriving DecidableEq, Repr

inductive BookOutcome where
  | bound | spoiled
deriving DecidableEq, Repr

inductive PocketId where
  | a | b
deriving DecidableEq, Repr

/-- One book record (R29). -/
structure Book where
  id          : Nat
  number      : Nat
  state       : BookState
  expected    : Nat
  admitted    : Nat
  gathered    : Nat
  diverted    : Nat
  lost        : Nat
  inQueue     : Nat
  wireClass   : Nat
  loopCount   : Nat
  hanger      : Bool
  pocket      : Option PocketId
  spoilReason : Option SpoilReason
  generation  : Byte
  openingSeq  : Half
  lastLeaf    : Nat
  outcome     : Option BookOutcome
deriving DecidableEq, Repr

/-- The Book Assembler: records in opening order, the end order by serial number, the tail book's number. -/
structure BookTable where
  records  : List Book
  endOrder : List Nat
  tailBook : Option Nat
deriving DecidableEq, Repr

/-! ### Punch -/

inductive PinHealth where
  | ok | openCoil | shortCoil
deriving DecidableEq, Repr

inductive PunchState where
  | idle | engage | strike | ramReturn | fault
deriving DecidableEq, Repr

/-- A sheet's resolved treatment (R60). -/
structure Treatment where
  pins     : List Nat
  notch    : Bool
  die      : Option DieKind
  spindles : List Idx4
deriving DecidableEq, Repr

/-- The Punch Controller (R66 to R68, R82). `held` and `pendingSetup` speak of the one entry AT_PUNCH. -/
structure Punch where
  health       : Vector PinHealth 49
  state        : PunchState
  treatment    : Option Treatment
  engaged      : List Nat
  faulted      : List Nat
  brokenOff    : Bool
  held         : Bool
  pendingSetup : Bool
  deadline     : Option Count
  ramWindow    : Nat
  returnWindow : Nat
  dieLines     : BitVec 3
  ramUpLevel   : Bool
deriving DecidableEq, Repr

/-! ### Drill -/

inductive SpindleState where
  | idle | plunge | dwell | retract | done | fault
deriving DecidableEq, Repr

inductive ProfileMode where
  | oneShot | peck
deriving DecidableEq, Repr

/-- A feed profile (R85). -/
structure Profile where
  mode          : ProfileMode
  peckCount     : Nat
  plungeWindow  : Nat
  dwell         : Nat
  retractWindow : Nat
deriving DecidableEq, Repr

/-- A spindle's copy of its profile, with the number it was copied from (R84). -/
structure ProfileCopy where
  number  : Idx4
  profile : Profile
deriving DecidableEq, Repr

/-- One spindle (R84, R94). -/
structure Spindle where
  state     : SpindleState
  copy      : Option ProfileCopy
  passes    : Nat
  timedOut  : Bool
  deadline  : Option Count
  downLevel : Bool
  upLevel   : Bool
deriving DecidableEq, Repr

/-- The Drill Controller (R84 to R87). `held` and `pendingSetup` speak of the one entry AT_DRILL. -/
structure Drill where
  spindles     : Quad Spindle
  profiles     : Quad Profile
  map          : Quad Idx4
  cycle        : List Idx4
  held         : Bool
  faulted      : List Idx4
  pendingSetup : Bool
deriving DecidableEq, Repr

/-! ### Closer -/

inductive CloserState where
  | idle | clamp | hanger | feed | cut | close | eject | dump | fault
deriving DecidableEq, Repr

inductive PocketState where
  | free | gathering | full | dumpWait | binding | dumping
deriving DecidableEq, Repr

/-- A pocket (R104). -/
structure Pocket where
  state : PocketState
  book  : Option Nat
deriving DecidableEq, Repr

inductive LoadMark where
  | atTake | atCut
deriving DecidableEq, Repr

/-- The active loop count (R111): the record it belongs to by number and by serial number. -/
structure ActiveCount where
  value : Nat
  book  : Nat
  id    : Nat
  mark  : LoadMark
deriving DecidableEq, Repr

/-- The staged loop count (R111). -/
structure StagedCount where
  value : Nat
  book  : Nat
  id    : Nat
deriving DecidableEq, Repr

inductive CloserCause where
  | window | hangerEmpty | guard
deriving DecidableEq, Repr

/-- The closer fault record (R114). -/
structure CloserFault where
  step   : CloserState
  book   : Nat
  pocket : PocketId
  cause  : CloserCause
deriving DecidableEq, Repr

/-- The seven step windows (R103). -/
structure CloserWindows where
  clamp  : Nat
  hanger : Nat
  loop   : Nat
  cut    : Nat
  close  : Nat
  eject  : Nat
  dump   : Nat
deriving DecidableEq, Repr

/-- The pocket a cycle works on and the book that holds it (R101). -/
structure Current where
  pocket : PocketId
  book   : Nat
deriving DecidableEq, Repr

/-- The Closer Controller (R101 to R121). -/
structure Closer where
  state       : CloserState
  current     : Option Current
  pocketA     : Pocket
  pocketB     : Pocket
  requests    : List PocketId
  deadline    : Option Count
  active      : Option ActiveCount
  staged      : Option StagedCount
  wireClass   : Nat
  windows     : CloserWindows
  faultRecord : Option CloserFault
  hangerEmpty : Bool
deriving DecidableEq, Repr

/-! ### Timebase -/

inductive TimebaseState where
  | unset | starting | valid | lost
deriving DecidableEq, Repr

inductive Edge where
  | rising | falling | both
deriving DecidableEq, Repr

/-- The six settings (R122). -/
structure TimebaseSettings where
  scale  : Nat
  edge   : Edge
  leadIn : Nat
  mid    : Nat
  runOut : Nat
  drop   : Nat
deriving DecidableEq, Repr

/-- The Timebase (R122 to R133). -/
structure Timebase where
  settings : TimebaseSettings
  state    : TimebaseState
  position : Count
  millis   : Count
  runCount : Nat
deriving DecidableEq, Repr

/-! ### Supervisor -/

inductive LineState where
  | idle | run | hold | halt
deriving DecidableEq, Repr

/-- A subset of the three stations (R140, R142), or one flag for each (the guards, R144). -/
structure StationSet where
  punch  : Bool
  drill  : Bool
  closer : Bool
deriving DecidableEq, Repr

/-- The station sets, the service lock and the guard levels (R140 to R145); a guard's flag is set while it is open. -/
structure Stations where
  activation   : StationSet
  outOfService : StationSet
  lock         : Bool
  guardsOpen   : StationSet
deriving DecidableEq, Repr

/-- The five report enables (R148). -/
structure Enables where
  pinFaults   : Bool
  closerFault : Bool
  linkError   : Bool
  driverHot   : Bool
  powerUp     : Bool
deriving DecidableEq, Repr

/-- The sheet sensors (R189's sensor codes). -/
inductive Sensor where
  | entry | punchRegister | drillRegister | exit | landingA | landingB | landingReject
deriving DecidableEq, Repr

/-- The halt causes with their details (R153). -/
inductive Cause where
  | sequenceGap (expected received : Half)
  | orphanSheet
  | unexpectedSheet (sensor : Sensor) (misroute : Option Dest)
  | unexpectedMotion (sensor : Sensor)
  | doubleSheet (sequence : Half)
  | jam (segment : Segment) (sequence : Half)
  | ramStall
  | ramStuck
  | drillStuck (spindle : Idx4)
  | guardOpen (station : Station)
  | supplyLow
  | driverShutdown
  | timebaseLost
  | externalStop
  | haltRequest
deriving DecidableEq, Repr

/-- A resume point (R156). -/
structure ResumePoint where
  book     : Nat
  sequence : Half
deriving DecidableEq, Repr

/-- The halt record (R155). -/
structure HaltRecord where
  cause         : Cause
  lineBefore    : LineState
  headSequence  : Option Half
  bookConcerned : Option Nat
  position      : Count
  resumePoint   : Option ResumePoint
deriving DecidableEq, Repr

/-- The secondary record (R157). -/
structure SecondaryRecord where
  cause         : Cause
  bookConcerned : Option Nat
deriving DecidableEq, Repr

/-- A pending HALT NOTICE (R158). -/
structure HaltNotice where
  cause         : Cause
  headSequence  : Option Half
  bookConcerned : Option Nat
  resumePoint   : Option ResumePoint
  superseded    : Bool
deriving DecidableEq, Repr

/-- The Line Supervisor, less its station sets (R134 to R168). -/
structure Supervisor where
  line           : LineState
  pocketWait     : Bool
  feedMargin     : Nat
  enables        : Enables
  powerUpFlag    : Bool
  driverHotFlag  : Bool
  supplyLow      : Bool
  driverShutdown : Bool
  driverHot      : Bool
  stopInput      : Bool
  haltRecord     : Option HaltRecord
  secondary      : Option SecondaryRecord
  more           : Bool
  notice         : Option HaltNotice
deriving DecidableEq, Repr

/-! ### The whole part -/

/-- The part: its blocks. -/
structure Part where
  port     : Port
  cmd      : CommandUnit
  tracker  : Tracker
  patterns : Vector Pattern 64
  books    : BookTable
  punch    : Punch
  drill    : Drill
  closer   : Closer
  timebase : Timebase
  stations : Stations
  sup      : Supervisor
deriving DecidableEq, Repr

/-- The state of the block: the part, and the queue of the commands that are waiting, first in, first out. -/
structure State extends Part where
  pending : List Instr
deriving DecidableEq, Repr

/-- Why a step can stop with a fault: never. The spec gives no event that stops the part (a halt is a line state in
which it works on), so the type has no constructor (safe: nothing is cut off). -/
inductive Fault where
deriving DecidableEq, Repr

/-- Why a command can be refused. -/
inductive Refusal where
  /-- raised by exec's arm of a command that has no meaning in the model; no arm does so (safe) -/
  | notModelled (mnemonic : String)
deriving DecidableEq, Repr

/-! ### Block updates -/

namespace Part

def onPort (f : Port → Port) (p : Part) : Part := { p with port := f p.port }
def onCmd (f : CommandUnit → CommandUnit) (p : Part) : Part := { p with cmd := f p.cmd }
def onTracker (f : Tracker → Tracker) (p : Part) : Part := { p with tracker := f p.tracker }
def onPatterns (f : Vector Pattern 64 → Vector Pattern 64) (p : Part) : Part := { p with patterns := f p.patterns }
def onBooks (f : BookTable → BookTable) (p : Part) : Part := { p with books := f p.books }
def onPunch (f : Punch → Punch) (p : Part) : Part := { p with punch := f p.punch }
def onDrill (f : Drill → Drill) (p : Part) : Part := { p with drill := f p.drill }
def onCloser (f : Closer → Closer) (p : Part) : Part := { p with closer := f p.closer }
def onTimebase (f : Timebase → Timebase) (p : Part) : Part := { p with timebase := f p.timebase }
def onStations (f : Stations → Stations) (p : Part) : Part := { p with stations := f p.stations }
def onSup (f : Supervisor → Supervisor) (p : Part) : Part := { p with sup := f p.sup }

end Part

/-! ### Reset values -/

/-- Nothing in a set of stations. -/
def StationSet.none : StationSet := ⟨false, false, false⟩

/-- Entry 0: the blank pattern (R52). -/
def PatternDef.blank : PatternDef := ⟨.any, [], false, []⟩

/-- The pattern table after power-on and hard reset (R52). -/
def Part.resetPatterns : Vector Pattern 64 :=
  (Vector.replicate 64 ⟨none, 0⟩).set 0 ⟨some .blank, 0⟩

/-- A spindle after reset (R84); the sensor levels carry no reset value (log 6). -/
def Spindle.reset : Spindle := ⟨.idle, none, 0, false, none, false, false⟩

/-- A feed profile after reset (R85). -/
def Profile.reset : Profile := ⟨.oneShot, 2, 400, 50, 400⟩

/-- Every block at its reset value (R186 and the "(reset: …)" of each rule). The input levels and the address pins
carry none: the model starts with every input inactive, closed, absent or 0 (DESIGN CHOICE, unsafe, log 6 and log 7). -/
def Part.reset : Part where
  port := ⟨.outside, [], [], false, 0, false, none⟩
  cmd := ⟨[], none⟩
  tracker := ⟨[], none, .reject, 0⟩
  patterns := Part.resetPatterns
  books := ⟨[], [], none⟩
  punch :=
    { health := Vector.replicate 49 .ok, state := .idle, treatment := none, engaged := [], faulted := []
      brokenOff := false, held := false, pendingSetup := false, deadline := none, ramWindow := 250, returnWindow := 250
      dieLines := 0, ramUpLevel := false }
  drill :=
    { spindles := ⟨.reset, .reset, .reset, .reset⟩, profiles := ⟨.reset, .reset, .reset, .reset⟩
      map := ⟨.i1, .i2, .i3, .i4⟩, cycle := [], held := false, faulted := [], pendingSetup := false }
  closer :=
    { state := .idle, current := none, pocketA := ⟨.free, none⟩, pocketB := ⟨.free, none⟩, requests := []
      deadline := none, active := none, staged := none, wireClass := 0, windows := ⟨300, 500, 80, 200, 400, 500, 1500⟩
      faultRecord := none, hangerEmpty := false }
  timebase := ⟨⟨8, .rising, 600, 500, 500, 400⟩, .unset, 0, 0, 0⟩
  stations := ⟨.none, .none, false, .none⟩
  sup :=
    { line := .idle, pocketWait := false, feedMargin := 2, enables := ⟨true, true, false, false, false⟩
      powerUpFlag := true, driverHotFlag := false, supplyLow := false, driverShutdown := false, driverHot := false
      stopInput := false, haltRecord := none, secondary := none, more := false, notice := none }

/-- The machine right after power-on (R186), with no command waiting. -/
def State.reset : State := { Part.reset with pending := [] }

end Sys2Proof.Machine
end

