-- ==== Sys2Proof/Machine/Ops.lean ====
section
/-! DEFINITION. The shared operations: counts and deadlines, the queue, use counts, pockets, book records, spoiling and
ending a book, and an entry becoming DONE. -/

namespace Sys2Proof

/-- The four numbers in ascending order. -/
def Idx4.all : List Idx4 := [.i1, .i2, .i3, .i4]

def Idx4.toNat : Idx4 → Nat
  | .i1 => 1
  | .i2 => 2
  | .i3 => 3
  | .i4 => 4

/-- The spindle or profile with a number, 1 to 4. -/
def Idx4.ofNat? : Nat → Option Idx4
  | 1 => some .i1
  | 2 => some .i2
  | 3 => some .i3
  | 4 => some .i4
  | _ => none

/-- The members of a list of spindles in ascending order, each once. -/
def Idx4.sorted (l : List Idx4) : List Idx4 := Idx4.all.filter (fun i => l.contains i)

/-- The stage that carries a segment's deadline (R19). -/
def Segment.stage : Segment → Machine.Stage
  | .leadIn => .entered
  | .mid => .toDrill
  | .runOut => .toGate
  | .drop => .dropping

end Sys2Proof

namespace Sys2Proof.Machine

/-! ### Indexing -/

namespace Quad
variable {α : Type}

def get (q : Quad α) : Idx4 → α
  | .i1 => q.q1
  | .i2 => q.q2
  | .i3 => q.q3
  | .i4 => q.q4

def set (q : Quad α) (i : Idx4) (x : α) : Quad α :=
  match i with
  | .i1 => { q with q1 := x }
  | .i2 => { q with q2 := x }
  | .i3 => { q with q3 := x }
  | .i4 => { q with q4 := x }

def map {β : Type} (f : α → β) (q : Quad α) : Quad β := ⟨f q.q1, f q.q2, f q.q3, f q.q4⟩

def toList (q : Quad α) : List α := [q.q1, q.q2, q.q3, q.q4]

end Quad

/-- Put one number in its place in an ascending list, once. -/
def insertAsc (n : Nat) : List Nat → List Nat
  | [] => [n]
  | m :: rest => if n < m then n :: m :: rest else if n = m then m :: rest else m :: insertAsc n rest

/-- Change the first item that a test picks. -/
def modifyFirst {α : Type} (pick : α → Bool) (f : α → α) : List α → List α
  | [] => []
  | x :: rest => if pick x then f x :: rest else x :: modifyFirst pick f rest

/-! ### Counts and deadlines -/

/-- R130: a deadline is passed when count − deadline, modulo 2^32, lies between 1 and 2^31 − 1. -/
def passed (deadline count : Count) : Bool :=
  let d := (count - deadline).toNat
  1 ≤ d && d < 2 ^ 31

namespace Part

/-- A deadline on the millisecond count (R78, R94, R103, R131). -/
def msDeadline (window : Nat) (p : Part) : Count := p.timebase.millis + BitVec.ofNat 32 window

/-- A deadline on the position counter: window in mm times scale (R19, R131). -/
def posDeadline (window : Nat) (p : Part) : Count :=
  p.timebase.position + BitVec.ofNat 32 (window * p.timebase.settings.scale)

/-- Whether a recorded millisecond deadline has run out (R78, R94, R103). -/
def msPassed (deadline : Option Count) (p : Part) : Bool :=
  match deadline with
  | some d => passed d p.timebase.millis
  | none => false

/-! ### The queue -/

/-- The oldest entry in a stage (R9 to R14). -/
def oldest (st : Stage) (p : Part) : Option Entry := p.tracker.queue.find? (fun e => e.stage == st)

def hasStage (st : Stage) (p : Part) : Bool := p.tracker.queue.any (fun e => e.stage == st)

/-- Change the oldest entry in a stage. -/
def modifyOldest (st : Stage) (f : Entry → Entry) (p : Part) : Part :=
  p.onTracker fun t => { t with queue := modifyFirst (fun e => e.stage == st) f t.queue }

/-- The WAITING count (R3). -/
def waitingCount (p : Part) : Nat := p.tracker.queue.countP (fun e => e.stage == .waiting)

end Part

def Entry.isVoid (e : Entry) : Bool := e.voidReason.isSome

namespace Part

/-- A deadline slot (R131): the deadline of the oldest entry in the segment's stage, with that entry. -/
def slot (seg : Segment) (p : Part) : Option (Deadline × Entry) :=
  match p.oldest seg.stage with
  | some e => e.deadline.map (fun d => (d, e))
  | none => none

/-- The count a deadline is judged on (R131). -/
def countOf (k : DeadlineKind) (p : Part) : Count :=
  match k with
  | .position => p.timebase.position
  | .time => p.timebase.millis

/-! ### Patterns -/

def pattern? (n : Nat) (p : Part) : Option PatternDef :=
  if h : n < 64 then (p.patterns[n]).loaded else none

def useCount (n : Nat) (p : Part) : Nat := if h : n < 64 then (p.patterns[n]).useCount else 0

def setPattern (n : Nat) (f : Pattern → Pattern) (p : Part) : Part :=
  p.onPatterns fun v => if h : n < 64 then v.set n (f v[n]) else v

/-- R54: a non-VOID entry was taken in, or became DONE. -/
def raiseUse (n : Nat) (p : Part) : Part := p.setPattern n fun q => { q with useCount := q.useCount + 1 }
def lowerUse (n : Nat) (p : Part) : Part := p.setPattern n fun q => { q with useCount := q.useCount - 1 }

/-! ### Pockets and the request list -/

def pocket (k : PocketId) (p : Part) : Pocket :=
  match k with
  | .a => p.closer.pocketA
  | .b => p.closer.pocketB

def setPocket (k : PocketId) (x : Pocket) (p : Part) : Part :=
  match k with
  | .a => p.onCloser fun c => { c with pocketA := x }
  | .b => p.onCloser fun c => { c with pocketB := x }

/-- Give a pocket another state, its book unchanged. -/
def movePocket (k : PocketId) (st : PocketState) (p : Part) : Part :=
  p.setPocket k { p.pocket k with state := st }

/-- The grant's choice: the first FREE pocket in the order A, then B (R104). -/
def freePocket (p : Part) : Option PocketId :=
  if p.closer.pocketA.state = .free then some .a
  else if p.closer.pocketB.state = .free then some .b
  else none

def joinRequests (k : PocketId) (p : Part) : Part :=
  p.onCloser fun c => { c with requests := c.requests ++ [k] }

/-! ### Book records -/

def book? (n : Nat) (p : Part) : Option Book := p.books.records.find? (fun b => b.number == n)

def recordById? (i : Nat) (p : Part) : Option Book := p.books.records.find? (fun b => b.id == i)

/-- Change the record that carries a book number. -/
def updateBook (n : Nat) (f : Book → Book) (p : Part) : Part :=
  p.onBooks fun t => { t with records := t.records.map (fun b => if b.number = n then f b else b) }

/-- Whether an entry's book is SPOILED (R16, R69, R88). -/
def bookSpoiled (n : Nat) (p : Part) : Bool :=
  match p.book? n with
  | some b => b.state == .spoiled
  | none => false

end Part

/-- A record changes its state and its generation rises (R31). -/
def Book.enter (st : BookState) (b : Book) : Book := { b with state := st, generation := b.generation + 1 }

/-- R43's three conditions on a SPOILED record. -/
def Book.mayEnd (b : Book) : Bool :=
  b.state == .spoiled && b.admitted == b.expected && b.inQueue == 0 && b.pocket == none

namespace Part

/-- A record becomes ENDED and takes its place in the end order (R42 to R44). -/
def endBook (n : Nat) (o : BookOutcome) (p : Part) : Part :=
  match p.book? n with
  | some b =>
    (p.updateBook n fun b => { b.enter .ended with outcome := some o }).onBooks
      fun t => { t with endOrder := t.endOrder ++ [b.id] }
  | none => p

/-- The end test of R43. -/
def endTest (n : Nat) (p : Part) : Part :=
  match p.book? n with
  | some b => if b.mayEnd then p.endBook n .spoiled else p
  | none => p

/-- What a spoil does to the pocket of a book in OPEN, FILLED or READY (R39, R40). -/
def spoilPocket (k : PocketId) (p : Part) : Part :=
  match (p.pocket k).state with
  | .gathering => (p.movePocket k .dumpWait).joinRequests k
  | .full => p.movePocket k .dumpWait
  | _ => p

/-- The staged count of a record is discarded (R40, R113). -/
def dropStaged (i : Nat) (p : Part) : Part :=
  p.onCloser fun c =>
    match c.staged with
    | some g => if g.id = i then { c with staged := none } else c
    | none => c

/-- A spoil (R40, R41). `lower` says whether the source lowers the expected count to the admitted count. -/
def spoil (n : Nat) (why : SpoilReason) (lower : Bool) (p : Part) : Part :=
  let low (b : Book) : Book := if lower then { b with expected := b.admitted } else b
  match p.book? n with
  | none => p
  | some b =>
    match b.state with
    | .opened | .filled | .ready =>
      let p := p.updateBook n fun b => low { b.enter .spoiled with spoilReason := some why }
      let p := match b.pocket with
        | some k => p.spoilPocket k
        | none => p
      (p.dropStaged b.id).endTest n
    | .closing =>
      if why = .closerFault ∨ why = .lineHalt then
        (p.updateBook n fun b => { b.enter .spoiled with spoilReason := some why }).endTest n
      else p
    | .spoiled => (p.updateBook n low).endTest n
    | .ended => p

/-- A book gives its pocket up: gathered leaves move to another count, the pocket is FREE (R43). -/
def giveUpPocket (k : PocketId) (n : Nat) (move : Book → Book) (p : Part) : Part :=
  ((p.setPocket k ⟨.free, none⟩).updateBook n fun b => { move b with gathered := 0, pocket := none }).endTest n

/-- A book becomes READY: its pocket goes FULL and joins the list, and its loop count is staged unless the closer
is IDLE with nothing else in the list, or a count is staged already (R38, R111). -/
def makeReady (n : Nat) (p : Part) : Part :=
  match p.book? n with
  | none => p
  | some b =>
    let p := p.updateBook n (Book.enter .ready)
    let p := match b.pocket with
      | some k => (p.movePocket k .full).joinRequests k
      | none => p
    if p.closer.state = .idle ∧ p.closer.requests.length = 1 then p
    else p.onCloser fun c =>
      match c.staged with
      | none => { c with staged := some ⟨b.loopCount, b.number, b.id⟩ }
      | some _ => c

/-- Gathered reached expected in a FILLED book (R36). -/
def readyTest (n : Nat) (p : Part) : Part :=
  match p.book? n with
  | some b => if b.state = .filled ∧ b.gathered = b.expected then p.makeReady n else p
  | none => p

/-! ### An entry becomes DONE -/

/-- The counts that change as a non-VOID entry becomes DONE (R20, R36, R54). -/
def countDone (o : Outcome) (e : Entry) (p : Part) : Part :=
  if e.isVoid then p
  else
    let p := p.lowerUse e.pattern
    match o with
    | .gathered => (p.updateBook e.book fun b => { b with gathered := b.gathered + 1 }).readyTest e.book
    | .diverted => p.updateBook e.book fun b => { b with diverted := b.diverted + 1 }
    | .lost => p.updateBook e.book fun b => { b with lost := b.lost + 1 }
    | .flushed => p

end Part

/-- The entry itself (R20). -/
def Entry.finish (o : Outcome) (e : Entry) : Entry :=
  { e with stage := .done, outcome := some o, deadline := none }

namespace Part

/-- Every entry that a test picks becomes DONE, in queue order (R20). -/
def finishAll (pick : Entry → Bool) (o : Outcome) (p : Part) : Part :=
  let hit := p.tracker.queue.filter pick
  let p := p.onTracker fun t => { t with queue := t.queue.map (fun e => if pick e then e.finish o else e) }
  hit.foldl (fun p e => p.countDone o e) p

end Part

end Sys2Proof.Machine
end

