-- ==== Sys2Proof/Machine/Flags.lean ====
section
/-! DEFINITION. Everything the part shows that follows from its state: the effective set, the outputs, the fault
classes, the conditions that refuse RUN and RESUME. -/

namespace Sys2Proof.Machine

def StationSet.has (t : StationSet) : Station → Bool
  | .punch => t.punch
  | .drill => t.drill
  | .closer => t.closer

def StationSet.set (t : StationSet) (x : Bool) : Station → StationSet
  | .punch => { t with punch := x }
  | .drill => { t with drill := x }
  | .closer => { t with closer := x }

/-- The manners of the operator signal (R150). -/
inductive Signal where
  | steady | pulsed | off
deriving DecidableEq, Repr

/-- The conditions that refuse RUN and RESUME, with their details (R135, R163, R189). -/
inductive Condition where
  | timebase (t : TimebaseState)
  | supplyLow
  | driverShutdown
  | guardOpen (s : Station)
  | punchFault
  | spindleFault (i : Idx4)
deriving DecidableEq, Repr

namespace Part

/-! ### Stations -/

/-- R145: in the activation set, not out of service, guard closed. -/
def effective (s : Station) (p : Part) : Bool :=
  p.stations.activation.has s && !p.stations.outOfService.has s && !p.stations.guardsOpen.has s

def effectiveSet (p : Part) : StationSet := ⟨p.effective .punch, p.effective .drill, p.effective .closer⟩

/-- A closer state of the bind cycle (R101). -/
def bindState (c : CloserState) : Bool :=
  match c with
  | .clamp | .hanger | .feed | .cut | .close | .eject => true
  | .idle | .dump | .fault => false

/-- A controller has a cycle running (R144). -/
def cycleRunning (s : Station) (p : Part) : Bool :=
  match s with
  | .punch => p.punch.state == .engage || p.punch.state == .strike || p.punch.state == .ramReturn
  | .drill => p.drill.cycle != []
  | .closer => bindState p.closer.state || p.closer.state == .dump

/-! ### Outputs -/

/-- R138. -/
def transportRun (p : Part) : Bool := p.sup.line == .run

/-- R139: released while the line is RUN and the WAITING count is at least the margin. -/
def feedHold (p : Part) : Bool := !(p.sup.line == .run && p.sup.feedMargin ≤ p.waitingCount)

/-- The hold line to the upstream neighbour (R171): all four places are occupied. -/
def placesOccupied (p : Part) : Nat :=
  p.port.rxBuf.length + (match p.port.rx with | .inside _ => 1 | _ => 0)
def holdOut (p : Part) : Bool := Config.rxPlaces ≤ p.placesOccupied

/-- The latch drives (R68) and the ram command: down in STRIKE alone. -/
def latchDrives (p : Part) : List Nat := if p.cycleRunning .punch then p.punch.engaged else []
def ramCommandDown (p : Part) : Bool := p.punch.state == .strike

/-- A spindle's feed command: down in PLUNGE and DWELL (R84). -/
def feedCommandDown (i : Idx4) (p : Part) : Bool :=
  (p.drill.spindles.get i).state == .plunge || (p.drill.spindles.get i).state == .dwell

/-- The closer commands driven (R101): clamp, hanger, wire feed, cut, close, eject, dump. -/
structure CloserDrive where
  clamp  : Bool
  hanger : Bool
  feed   : Bool
  cut    : Bool
  close  : Bool
  eject  : Bool
  dump   : Bool
deriving DecidableEq, Repr

def closerDrive (p : Part) : CloserDrive :=
  match p.closer.state with
  | .idle | .fault => ⟨false, false, false, false, false, false, false⟩
  | .clamp => ⟨true, false, false, false, false, false, false⟩
  | .hanger => ⟨true, true, false, false, false, false, false⟩
  | .feed => ⟨true, false, true, false, false, false, false⟩
  | .cut => ⟨true, false, false, true, false, false, false⟩
  | .close => ⟨true, false, false, false, true, false, false⟩
  | .eject => ⟨false, false, false, false, false, true, false⟩
  | .dump => ⟨false, false, false, false, false, false, true⟩

/-! ### Fault classes, the fault line, the operator signal -/

/-- The number of items of the pin health map that are not OK (R67). -/
def faultedCoils (p : Part) : Nat := p.punch.health.toList.countP (fun h => h != .ok)

/-- The five classes present (R148), in its order. -/
def classes (p : Part) : Enables :=
  ⟨p.faultedCoils != 0, p.closer.state == .fault, p.port.linkError, p.sup.driverHotFlag, p.sup.powerUpFlag⟩

def anySpindleFault (p : Part) : Bool := p.drill.spindles.toList.any (fun x => x.state == .fault)

/-- R148. -/
def faultLine (p : Part) : Bool :=
  p.sup.line == .halt || p.punch.state == .fault || p.anySpindleFault ||
  (p.sup.enables.pinFaults && p.classes.pinFaults) || (p.sup.enables.closerFault && p.classes.closerFault) ||
  (p.sup.enables.linkError && p.classes.linkError) || (p.sup.enables.driverHot && p.classes.driverHot) ||
  (p.sup.enables.powerUp && p.classes.powerUp)

/-- The manner chosen (R150). -/
def signal (p : Part) : Signal :=
  if p.sup.line = .halt then .steady
  else if p.sup.line = .hold ∨ p.closer.state = .fault then .pulsed
  else .off

/-- What the operator output drives (R150): a PULSED signal blinks at 1 Hz while the timebase is VALID and is shown
as STEADY otherwise. -/
def signalOn (p : Part) : Bool :=
  match p.signal with
  | .steady => true
  | .off => false
  | .pulsed => p.timebase.state != .valid || p.timebase.millis.toNat % 1000 < 500

/-! ### Conditions -/

/-- The first activated station whose guard is open (R135, R163). -/
def openGuard (p : Part) : Option Station :=
  [Station.punch, .drill, .closer].find? fun s => p.stations.activation.has s && p.stations.guardsOpen.has s

/-- The lowest-numbered spindle in FAULT. -/
def faultedSpindle (p : Part) : Option Idx4 := Idx4.all.find? fun i => (p.drill.spindles.get i).state == .fault

/-- The first condition of a list that holds. -/
def firstOf : List (Option Condition) → Option Condition
  | [] => none
  | some c :: _ => some c
  | none :: rest => firstOf rest

def timebaseCondition (p : Part) : Option Condition :=
  if p.timebase.state = .valid then none else some (.timebase p.timebase.state)
def supplyCondition (p : Part) : Option Condition := if p.sup.supplyLow then some .supplyLow else none
def shutdownCondition (p : Part) : Option Condition := if p.sup.driverShutdown then some .driverShutdown else none
def guardCondition (p : Part) : Option Condition := p.openGuard.map .guardOpen
def punchCondition (p : Part) : Option Condition := if p.punch.state = .fault then some .punchFault else none
def spindleCondition (p : Part) : Option Condition := p.faultedSpindle.map .spindleFault

/-- The RUN test, in R135's order. -/
def runCondition (p : Part) : Option Condition :=
  firstOf [p.timebaseCondition, p.supplyCondition, p.shutdownCondition, p.guardCondition, p.punchCondition,
    p.spindleCondition]

/-- The RESUME test, in R163's order. -/
def resumeCondition (p : Part) : Option Condition :=
  firstOf [p.supplyCondition, p.shutdownCondition, p.timebaseCondition, p.punchCondition, p.spindleCondition,
    p.guardCondition]

end Part

end Sys2Proof.Machine
end

