-- ==== Sys2Proof/Machine/Operands.lean ====
section
/-! DEFINITION. Bytes in and bytes out: the CRC, the header, the codes of chapter 11, sheet bodies and sheet reports,
notices, and the items of reply payloads. -/

namespace Sys2Proof.Machine

/-! ### Numbers as bytes, most significant byte first (R187) -/

def byte (n : Nat) : Byte := BitVec.ofNat 8 n
def be2 (n : Nat) : List Byte := [byte (n / 256), byte n]
def halfBytes (h : Half) : List Byte := be2 h.toNat
def countBytes (c : Count) : List Byte :=
  [byte (c.toNat / 16777216), byte (c.toNat / 65536), byte (c.toNat / 256), byte c.toNat]
def nat2 (a b : Byte) : Nat := 256 * a.toNat + b.toNat

/-- One level, flag or two-valued indication (R189). -/
def flag (b : Bool) : List Byte := [if b then 1 else 0]

/-- An optional item of a reply payload: a presence byte, then the item (R189). -/
def optional {α : Type} (f : α → List Byte) : Option α → List Byte
  | none => [0]
  | some x => 1 :: f x

/-- A list: a count byte, then the items (R187). -/
def counted {α : Type} (f : α → List Byte) (l : List α) : List Byte := byte l.length :: l.flatMap f

/-! ### CRC (R169): x^16 + x^12 + x^5 + 1, all ones first, most significant bit first, no final inversion -/

def crcShift : Nat → BitVec 16 → BitVec 16
  | 0, c => c
  | n + 1, c => crcShift n (if c.getLsbD 15 then (c <<< 1) ^^^ 0x1021#16 else c <<< 1)

def crcByte (c : BitVec 16) (b : Byte) : BitVec 16 := crcShift 8 (c ^^^ (b.setWidth 16 <<< 8))

def crc (bytes : List Byte) : BitVec 16 := bytes.foldl crcByte 0xFFFF#16

/-! ### Tickets on the link -/

/-- The header and the body (R187). -/
def Ticket.head (t : Ticket) : List Byte := [t.kind, t.dest, t.flags, t.tag, byte t.body.length] ++ t.body

/-- The bytes sent between START and END (R169, R187). -/
def Ticket.wire (t : Ticket) : List Byte := t.head ++ be2 (crc t.head).toNat

/-- The checks of R170 on the bytes received between START and END: enough bytes, a body length of at most 250 that
agrees with the bytes, and a CRC that agrees. -/
def parseTicket (bytes : List Byte) : Option Ticket :=
  match bytes with
  | kind :: dest :: flags :: tag :: len :: rest =>
    let t : Ticket := ⟨kind, dest, flags, tag, rest.take len.toNat⟩
    if len.toNat ≤ Config.maxBody ∧ rest.length = len.toNat + 2 ∧
        rest.drop len.toNat = be2 (crc t.head).toNat then some t
    else none
  | _ => none

/-- Bit 0 of the flags is FENCE (R187). -/
def Ticket.fence (t : Ticket) : Bool := t.flags.getLsbD 0

/-- The request code: the first body byte (R179). -/
def Ticket.code (t : Ticket) : Nat :=
  match t.body with
  | [] => 0
  | b :: _ => b.toNat

/-- Codes honoured by broadcast: RUN, STOP, HALT, CLEAR FAULTS, RESET (R176). -/
def honoured (code : Nat) : Bool := code == 16 || code == 17 || code == 18 || code == 20 || code == 21

/-! ### SHEET bodies (R188) -/

/-- The optional book header of a SHEET body. -/
structure BookHeader where
  expected  : Nat
  wireClass : Nat
  loopCount : Nat
  hanger    : Nat
deriving DecidableEq, Repr

/-- The fields of a SHEET body as received, missing ones 0. -/
structure SheetFields where
  sequence : Half
  book     : Nat
  leaf     : Nat
  role     : Nat
  face     : Nat
  pattern  : Nat
  header   : Option BookHeader
  lengthOk : Bool
deriving DecidableEq, Repr

/-- Byte `i` of a body, 0 where it has none. -/
def bodyByte (body : List Byte) (i : Nat) : Byte := body.getD i 0

/-- A field of two bytes held as received, 0 where either byte is missing (R188, log 31). -/
def bodyHalf (body : List Byte) (i : Nat) : Nat :=
  if i + 1 < body.length then nat2 (bodyByte body i) (bodyByte body (i + 1)) else 0

def sheetFields (body : List Byte) : SheetFields where
  sequence := BitVec.ofNat 16 (bodyHalf body 0)
  book := bodyHalf body 2
  leaf := (bodyByte body 4).toNat
  role := (bodyByte body 5).toNat
  face := (bodyByte body 6).toNat
  pattern := (bodyByte body 7).toNat
  header :=
    if body.length = 12 then
      some ⟨(bodyByte body 8).toNat, (bodyByte body 9).toNat, (bodyByte body 10).toNat, (bodyByte body 11).toNat⟩
    else none
  lengthOk := body.length == 8 || body.length == 12

def Role.ofCode? : Nat → Option Role
  | 1 => some .cover
  | 2 => some .leaf
  | 3 => some .board
  | _ => none

def Face.ofCode? : Nat → Option Face
  | 1 => some .up
  | 2 => some .down
  | _ => none

def inRange (lo hi n : Nat) : Bool := lo ≤ n && n ≤ hi

/-- The field checks of R6, after the length rule of R188: the first reason that applies. -/
def fieldCheck (f : SheetFields) : Option VoidReason :=
  let headerOk := match f.header with
    | none => true
    | some h => inRange 2 60 h.expected && inRange 1 4 h.wireClass && inRange 6 60 h.loopCount && inRange 1 2 h.hanger
  if !f.lengthOk || f.book == 0 || !inRange 1 60 f.leaf || !inRange 0 63 f.pattern || (Role.ofCode? f.role).isNone ||
      (Face.ofCode? f.face).isNone || !headerOk then some .badField
  else if (f.leaf == 1) != f.header.isSome then some .noHeader
  else none

/-! ### Codes (R188, R189) -/

def VoidReason.code : VoidReason → Nat
  | .badField => 1
  | .noHeader => 2
  | .leafOrder => 3
  | .noBook => 4
  | .duplicateBook => 5
  | .tableFull => 6
  | .wireMismatch => 7
  | .noPattern => 8

def Outcome.code : Outcome → Nat
  | .gathered => 1
  | .diverted => 2
  | .lost => 3
  | .flushed => 4

def Dest.code : Dest → Nat
  | .pocketA => 1
  | .pocketB => 2
  | .reject => 3

def PunchResult.code : PunchResult → Nat
  | .struck => 1
  | .partStruck => 2
  | .skipped => 3
  | .notRequired => 4

def DrillResult.code : DrillResult → Nat
  | .drilled => 1
  | .partDrilled => 2
  | .skipped => 3
  | .notRequired => 4

def SkipReason.code : SkipReason → Nat
  | .stationOff => 1
  | .dieMismatch => 2
  | .pinFault => 3
  | .bookSpoiled => 4
  | .voidEntry => 5

def Stage.code : Stage → Nat
  | .waiting => 1
  | .entered => 2
  | .atPunch => 3
  | .toDrill => 4
  | .atDrill => 5
  | .toGate => 6
  | .atGate => 7
  | .dropping => 8
  | .done => 9

def DeadlineKind.code : DeadlineKind → Nat
  | .position => 1
  | .time => 2

def LineState.code : LineState → Nat
  | .idle => 1
  | .run => 2
  | .hold => 3
  | .halt => 4

def BookState.code : BookState → Nat
  | .opened => 1
  | .filled => 2
  | .ready => 3
  | .closing => 4
  | .spoiled => 5
  | .ended => 6

def SpoilReason.code : SpoilReason → Nat
  | .sheetFault => 1
  | .voidLeaf => 2
  | .shortBook => 3
  | .lineHalt => 4
  | .closerFault => 5
  | .cancelled => 6
  | .flushed => 7
  | .linkReset => 8

def BookOutcome.code : BookOutcome → Nat
  | .bound => 1
  | .spoiled => 2

def PocketId.code : PocketId → Nat
  | .a => 1
  | .b => 2

def PocketState.code : PocketState → Nat
  | .free => 1
  | .gathering => 2
  | .full => 3
  | .dumpWait => 4
  | .binding => 5
  | .dumping => 6

def CloserState.code : CloserState → Nat
  | .idle => 1
  | .clamp => 2
  | .hanger => 3
  | .feed => 4
  | .cut => 5
  | .close => 6
  | .eject => 7
  | .dump => 8
  | .fault => 9

def CloserCause.code : CloserCause → Nat
  | .window => 1
  | .hangerEmpty => 2
  | .guard => 3

def LoadMark.code : LoadMark → Nat
  | .atTake => 1
  | .atCut => 2

def PunchState.code : PunchState → Nat
  | .idle => 1
  | .engage => 2
  | .strike => 3
  | .ramReturn => 4
  | .fault => 5

def SpindleState.code : SpindleState → Nat
  | .idle => 1
  | .plunge => 2
  | .dwell => 3
  | .retract => 4
  | .done => 5
  | .fault => 6

def DieKind.code : DieKind → Nat
  | .any => 8
  | .kind n => n

def PinHealth.code : PinHealth → Nat
  | .ok => 1
  | .openCoil => 2
  | .shortCoil => 3

def TimebaseState.code : TimebaseState → Nat
  | .unset => 1
  | .starting => 2
  | .valid => 3
  | .lost => 4

def Edge.code : Edge → Nat
  | .rising => 1
  | .falling => 2
  | .both => 3

def ProfileMode.code : ProfileMode → Nat
  | .oneShot => 1
  | .peck => 2

def Signal.code : Signal → Nat
  | .steady => 1
  | .pulsed => 2
  | .off => 3

def Sensor.code : Sensor → Nat
  | .entry => 1
  | .punchRegister => 2
  | .drillRegister => 3
  | .exit => 4
  | .landingA => 5
  | .landingB => 6
  | .landingReject => 7

/-- yes is 1, no is 2 (hanger and notch). -/
def yesNo (b : Bool) : Nat := if b then 1 else 2

def stationCode : Station → Nat
  | .punch => 1
  | .drill => 2
  | .closer => 3

def segmentCode : Segment → Nat
  | .leadIn => 1
  | .mid => 2
  | .runOut => 3
  | .drop => 4

/-- A station set in one byte: bit 0 PUNCH, bit 1 DRILL, bit 2 CLOSER. -/
def StationSet.bits (t : StationSet) : Byte :=
  byte ((if t.punch then 1 else 0) + (if t.drill then 2 else 0) + (if t.closer then 4 else 0))

/-- The two bytes that name a condition. -/
def Condition.bytes : Condition → List Byte
  | .timebase t => [1, byte t.code]
  | .supplyLow => [2, 0]
  | .driverShutdown => [3, 0]
  | .guardOpen s => [4, byte (stationCode s)]
  | .punchFault => [5, 0]
  | .spindleFault i => [6, byte i.toNat]

/-- A cause's code, in the order of R153. -/
def Cause.code : Cause → Nat
  | .sequenceGap _ _ => 1
  | .orphanSheet => 2
  | .unexpectedSheet _ _ => 3
  | .unexpectedMotion _ => 4
  | .doubleSheet _ => 5
  | .jam _ _ => 6
  | .ramStall => 7
  | .ramStuck => 8
  | .drillStuck _ => 9
  | .guardOpen _ => 10
  | .supplyLow => 11
  | .driverShutdown => 12
  | .timebaseLost => 13
  | .externalStop => 14
  | .haltRequest => 15

/-- A cause's four detail bytes. -/
def Cause.detail : Cause → List Byte
  | .sequenceGap e r => halfBytes e ++ halfBytes r
  | .jam seg q => [byte (segmentCode seg), 0] ++ halfBytes q
  | .doubleSheet q => [0, 0] ++ halfBytes q
  | .orphanSheet => [byte Sensor.entry.code, 0, 0, 0]
  | .unexpectedMotion s => [byte s.code, 0, 0, 0]
  | .unexpectedSheet s m => [byte s.code, byte (m.elim 0 Dest.code), 0, 0]
  | .ramStall => [byte (stationCode .punch), 0, 0, 0]
  | .ramStuck => [byte (stationCode .punch), 0, 0, 0]
  | .guardOpen s => [byte (stationCode s), 0, 0, 0]
  | .drillStuck i => [byte (stationCode .drill), byte i.toNat, 0, 0]
  | .supplyLow => [0, 0, 0, 0]
  | .driverShutdown => [0, 0, 0, 0]
  | .timebaseLost => [0, 0, 0, 0]
  | .externalStop => [0, 0, 0, 0]
  | .haltRequest => [0, 0, 0, 0]

/-! ### Sheet reports, BOOK_DONE and HALT_NOTICE -/

/-- An optional code of a report or a notice: 0 when absent (R187). -/
def codeOr0 {α : Type} (f : α → Nat) (x : Option α) : Byte := byte (x.elim 0 f)

/-- A received body with a report behind it: the body is cut where the two do not fit in 250 bytes, and the last
byte gives the number of body bytes kept (R188). -/
def withReport (t : Ticket) (report : List Byte) : Ticket :=
  let kept := t.body.take (Config.maxBody - (report.length + 1))
  { t with kind := Config.kindSheetReport, body := kept ++ report ++ [byte kept.length] }

/-- The sheet report of an entry (R21, R188). -/
def Entry.report (unit : Nat) (e : Entry) : Ticket :=
  withReport e.ticket
    ([byte unit, codeOr0 Outcome.code e.outcome, codeOr0 VoidReason.code e.voidReason, codeOr0 Dest.code e.destination,
      codeOr0 PunchResult.code e.punchResult, codeOr0 SkipReason.code e.punchSkip,
      codeOr0 DrillResult.code e.drillResult, codeOr0 SkipReason.code e.drillSkip] ++
     counted (fun n => [byte n]) e.faultedPins ++ counted (fun i => [byte i.toNat]) e.faultedSpindles)

/-- A ticket refused by the sequence check, turned into a report in place (R5, R21): FLUSHED, void reason SEQUENCE. -/
def Ticket.turn (unit : Nat) (t : Ticket) : Ticket :=
  withReport t [byte unit, byte Outcome.flushed.code, 9, 0, 0, 0, 0, 0, 0, 0]

/-- The BOOK DONE notice of a record (R44, R189). -/
def Book.doneTicket (unit : Nat) (b : Book) : Ticket :=
  { kind := Config.kindBookDone, dest := 0, flags := 0, tag := 0
    body := [byte unit] ++ be2 b.number ++ halfBytes b.openingSeq ++
      [codeOr0 BookOutcome.code b.outcome, byte b.expected, byte b.admitted, byte b.gathered, byte b.diverted,
       byte b.lost, if b.outcome = some .spoiled then codeOr0 SpoilReason.code b.spoilReason else 0,
       if b.outcome = some .bound then byte b.loopCount else 0] }

/-- The HALT NOTICE (R158, R189). -/
def HaltNotice.toTicket (unit : Nat) (n : HaltNotice) : Ticket :=
  { kind := Config.kindHaltNotice, dest := 0, flags := 0, tag := 0
    body := [byte unit, byte n.cause.code] ++ n.cause.detail ++
      [byte ((if n.headSequence.isSome then 1 else 0) + (if n.bookConcerned.isSome then 2 else 0) +
        (if n.resumePoint.isSome then 4 else 0) + (if n.superseded then 8 else 0))] ++
      halfBytes (n.headSequence.getD 0) ++ be2 (n.bookConcerned.getD 0) ++
      be2 (n.resumePoint.elim 0 ResumePoint.book) ++ halfBytes (n.resumePoint.elim 0 ResumePoint.sequence) }

/-! ### Replies (R180, R189) -/

inductive ResultCode where
  | ok | unknownRequest | badLength | badField | wrongState | inUse | locked | timebaseLocked | timebaseNotValid
  | unknownBook | stale | notAmendable | conditionPresent
deriving DecidableEq, Repr

def ResultCode.code : ResultCode → Nat
  | .ok => 1
  | .unknownRequest => 2
  | .badLength => 3
  | .badField => 4
  | .wrongState => 5
  | .inUse => 6
  | .locked => 7
  | .timebaseLocked => 8
  | .timebaseNotValid => 9
  | .unknownBook => 10
  | .stale => 11
  | .notAmendable => 12
  | .conditionPresent => 13

/-- What a request leaves: the part, a result code and the reply's payload. -/
structure Answer where
  part    : Part
  result  : ResultCode
  payload : List Byte
deriving DecidableEq, Repr

/-- The reply to a request: destination 0, FENCE clear, the request's tag (R180, R187). -/
def replyTo (unit : Nat) (request : Ticket) (result : ResultCode) (payload : List Byte) : Ticket :=
  { kind := Config.kindReply, dest := 0, flags := 0, tag := request.tag
    body := [byte unit, byte request.code, byte result.code] ++ payload }

/-- A refusal that changes nothing. -/
def refuse (result : ResultCode) (payload : List Byte) (p : Part) : Answer := ⟨p, result, payload⟩

def Profile.bytes (f : Profile) : List Byte :=
  [byte f.mode.code, byte f.peckCount] ++ be2 f.plungeWindow ++ be2 f.dwell ++ be2 f.retractWindow

def TimebaseSettings.bytes (t : TimebaseSettings) : List Byte :=
  [byte t.scale, byte t.edge.code] ++ be2 t.leadIn ++ be2 t.mid ++ be2 t.runOut ++ be2 t.drop

def CloserWindows.bytes (w : CloserWindows) : List Byte :=
  be2 w.clamp ++ be2 w.hanger ++ be2 w.loop ++ be2 w.cut ++ be2 w.close ++ be2 w.eject ++ be2 w.dump

def Enables.bytes (e : Enables) : List Byte :=
  flag e.pinFaults ++ flag e.closerFault ++ flag e.linkError ++ flag e.driverHot ++ flag e.powerUp

/-! ### Request fields -/

/-- A member flag or an enable: 0 or 1 (R189). -/
def boolField? (b : Byte) : Option Bool :=
  if b = 0 then some false else if b = 1 then some true else none

def yesNoField? (b : Byte) : Option Bool :=
  if b = 1 then some true else if b = 2 then some false else none

def setField? (a b c : Byte) : Option StationSet :=
  match boolField? a, boolField? b, boolField? c with
  | some x, some y, some z => some ⟨x, y, z⟩
  | _, _, _ => none

def edgeField? (b : Byte) : Option Edge :=
  if b = 1 then some .rising else if b = 2 then some .falling else if b = 3 then some .both else none

def modeField? (b : Byte) : Option ProfileMode :=
  if b = 1 then some .oneShot else if b = 2 then some .peck else none

end Sys2Proof.Machine
end

