-- ==== Sys2Proof/Machine/Closer.lean ====
section
/-! DEFINITION. The Closer Controller: the take, the bind and dump cycles, the loop counts, closer faults, the closer's
part of a halt, a link reset and CLEAR FAULTS, SET CLOSER and READ CLOSER. -/

namespace Sys2Proof.Machine

/-- The gate position that leads to a pocket (R14). -/
def PocketId.dest : PocketId → Dest
  | .a => .pocketA
  | .b => .pocketB

namespace Part

/-! ### Taking work -/

/-- R39: no queue entry is DROPPING with that pocket as its destination. -/
def settled (k : PocketId) (p : Part) : Bool :=
  !p.tracker.queue.any fun e => e.stage == .dropping && e.destination == some k.dest

/-- The pocket the closer takes when it tests the conditions of R106. -/
def takeable (p : Part) : Option PocketId :=
  if p.closer.state = .idle ∧ (p.sup.line = .run ∨ p.sup.line = .hold) ∧ p.effective .closer = true then
    match p.closer.requests with
    | k :: _ => if (p.pocket k).state = .dumpWait ∧ p.settled k = false then none else some k
    | [] => none
  else none

/-- Enter a closer state and arm its window from the setting in force (R103). -/
def enterCloser (st : CloserState) (window : CloserWindows → Nat) (p : Part) : Part :=
  p.onCloser fun c => { c with state := st, deadline := some (p.msDeadline (window c.windows)) }

/-- The closer enters IDLE with no current pocket. -/
def idleCloser (p : Part) : Part :=
  p.onCloser fun c => { c with state := .idle, current := none, deadline := none }

/-- The active count at the take of a FULL pocket (R111). -/
def loadActive (b : Book) (p : Part) : Part :=
  p.onCloser fun c =>
    match c.active with
    | some a => if a.id = b.id then c else { c with active := some ⟨b.loopCount, b.number, b.id, .atTake⟩ }
    | none => { c with active := some ⟨b.loopCount, b.number, b.id, .atTake⟩ }

/-- The active count is cleared if it belongs to a record (R110, R116). -/
def dropActive (i : Nat) (p : Part) : Part :=
  p.onCloser fun c =>
    match c.active with
    | some a => if a.id = i then { c with active := none } else c
    | none => c

/-- The take of a FULL pocket starts a bind (R42, R107, R111). -/
def takeBind (k : PocketId) (b : Book) (p : Part) : Part :=
  let p := (p.updateBook b.number (Book.enter .closing)).movePocket k .binding
  let p := (p.loadActive b).dropStaged b.id
  (p.onCloser fun c => { c with current := some ⟨k, b.number⟩ }).enterCloser .clamp CloserWindows.clamp

/-- The take of a DUMP_WAIT pocket starts a dump (R110). -/
def takeDump (k : PocketId) (b : Book) (p : Part) : Part :=
  let p := (p.movePocket k .dumping).dropActive b.id
  (p.onCloser fun c => { c with current := some ⟨k, b.number⟩ }).enterCloser .dump CloserWindows.dump

/-- A take removes the head of the list (R106). -/
def take (k : PocketId) (p : Part) : Part :=
  match (p.pocket k).book.bind p.book? with
  | none => p
  | some b =>
    let q := p.onCloser fun c => { c with requests := c.requests.tail }
    match (p.pocket k).state with
    | .full => q.takeBind k b
    | .dumpWait => q.takeDump k b
    | _ => p

/-- The closer tests its take conditions (R106). -/
def tryTake (p : Part) : Part :=
  match p.takeable with
  | some k => p.take k
  | none => p

/-! ### Faults -/

/-- A step fails: FAULT, the fault record, and in a bind the book is spoiled (R114, R115). -/
def closerFails (cause : CloserCause) (p : Part) : Part :=
  let step := p.closer.state
  let q := p.onCloser fun c => { c with state := .fault, deadline := none }
  match p.closer.current with
  | none => q
  | some cur =>
    let q := q.onCloser fun c => { c with faultRecord := some ⟨step, cur.book, cur.pocket, cause⟩ }
    if step = .dump then q else q.spoil cur.book .closerFault false

/-! ### The steps of a cycle -/

def enterFeed (p : Part) : Part := p.enterCloser .feed CloserWindows.loop

/-- Whether the book being bound has a hanger (R107). -/
def currentHanger (p : Part) : Bool :=
  match p.closer.current.bind (fun cur => p.book? cur.book) with
  | some b => b.hanger
  | none => false

/-- Clamp-done (R107); the hanger-empty level is tested on entry to HANGER. -/
def clampDone (p : Part) : Part :=
  if p.closer.state = .clamp then
    if p.currentHanger then
      let q := p.enterCloser .hanger CloserWindows.hanger
      if q.closer.hangerEmpty then q.closerFails .hangerEmpty else q
    else p.enterFeed
  else p

/-- Hanger-in (R107). -/
def hangerIn (p : Part) : Part := if p.closer.state = .hanger then p.enterFeed else p

/-- The hanger-empty line becomes active (R101, R107). -/
def hangerRunsEmpty (p : Part) : Part :=
  let q := p.onCloser fun c => { c with hangerEmpty := true }
  if q.closer.state = .hanger then q.closerFails .hangerEmpty else q

/-- A loop pulse (R108). -/
def loopPulse (p : Part) : Part :=
  if p.closer.state = .feed then
    match p.closer.active with
    | none => p
    | some a =>
      let q := p.onCloser fun c => { c with active := some { a with value := a.value - 1 } }
      if a.value ≤ 1 then q.enterCloser .cut CloserWindows.cut else q.enterFeed
  else p

/-- Cut-done: the staged count, if present, moves into active (R109, R112). -/
def cutDone (p : Part) : Part :=
  if p.closer.state = .cut then
    let q := p.onCloser fun c =>
      match c.staged with
      | some g => { c with active := some ⟨g.value, g.book, g.id, .atCut⟩, staged := none }
      | none => c
    q.enterCloser .close CloserWindows.close
  else p

/-- Close-done (R109). -/
def closeDone (p : Part) : Part :=
  if p.closer.state = .close then p.enterCloser .eject CloserWindows.eject else p

/-- Eject-done, less what follows in the same event: the book ends BOUND and its pocket is FREE (R42, R109). -/
def ejectBound (p : Part) : Part :=
  match p.closer.current with
  | none => p.idleCloser
  | some cur =>
    let q := (p.updateBook cur.book fun b => { b with pocket := none }).endBook cur.book .bound
    (q.setPocket cur.pocket ⟨.free, none⟩).idleCloser

/-- Dump-done, less what follows in the same event: the gathered leaves count as diverted (R43, R110). -/
def dumpEmptied (p : Part) : Part :=
  match p.closer.current with
  | none => p.idleCloser
  | some cur =>
    (p.giveUpPocket cur.pocket cur.book fun b => { b with diverted := b.diverted + b.gathered }).idleCloser

/-! ### Halt, link reset, CLEAR FAULTS -/

/-- The pocket of an abandoned cycle returns to the head of the list (R118). -/
def returnPocket (k : PocketId) (p : Part) : Part :=
  (p.movePocket k .dumpWait).onCloser fun c => { c with requests := k :: c.requests }

/-- Halt entry at the closer (R118). -/
def haltCloser (p : Part) : Part :=
  let q := p.onCloser fun c => { c with active := none }
  if bindState p.closer.state then
    match p.closer.current with
    | some cur => ((q.spoil cur.book .lineHalt false).returnPocket cur.pocket).idleCloser
    | none => q.idleCloser
  else if p.closer.state = .dump then
    match p.closer.current with
    | some cur => (q.returnPocket cur.pocket).idleCloser
    | none => q.idleCloser
  else q

/-- Link reset at the closer (R119). -/
def resetCloser (p : Part) : Part :=
  p.onCloser fun c =>
    { c with state := .idle, current := none, pocketA := ⟨.free, none⟩, pocketB := ⟨.free, none⟩, requests := []
             deadline := none, active := none, staged := none }

/-- CLEAR FAULTS at the closer, steps 1 to 5 of R116. -/
def clearCloser (p : Part) : Part :=
  if p.closer.state = .fault then
    match p.closer.current with
    | none => p.idleCloser
    | some cur =>
      let q := match p.book? cur.book with
        | some b => p.dropActive b.id
        | none => p
      (q.giveUpPocket cur.pocket cur.book fun b => { b with lost := b.lost + b.gathered }).idleCloser
  else p

/-! ### Requests -/

/-- The mounted class and the seven windows. -/
def closerSettings (p : Part) : List Byte := byte p.closer.wireClass :: p.closer.windows.bytes

/-- The ranges of R103 and R102. -/
def closerRangesOk (cls : Nat) (w : CloserWindows) : Bool :=
  cls ≤ 4 && inRange 10 2000 w.clamp && inRange 10 2000 w.hanger && inRange 10 500 w.loop && inRange 10 2000 w.cut &&
    inRange 10 2000 w.close && inRange 10 2000 w.eject && inRange 10 5000 w.dump

/-- The seven windows of a SET CLOSER body (R189). -/
def windowFields (body : List Byte) : CloserWindows :=
  ⟨bodyHalf body 2, bodyHalf body 4, bodyHalf body 6, bodyHalf body 8, bodyHalf body 10, bodyHalf body 12,
    bodyHalf body 14⟩

/-- SET CLOSER (R120). -/
def answerSetCloser (t : Ticket) (p : Part) : Answer :=
  let cls := (bodyByte t.body 1).toNat
  let w := windowFields t.body
  if t.body.length ≠ 16 then refuse .badLength p.closerSettings p
  else if p.sup.line = .run ∨ p.sup.line = .hold then refuse .wrongState p.closerSettings p
  else if !closerRangesOk cls w then refuse .badField p.closerSettings p
  else if cls ≠ p.closer.wireClass ∧ p.books.records ≠ [] then
    refuse .inUse (p.closerSettings ++ [byte p.books.records.length]) p
  else
    let q := p.onCloser fun x => { x with wireClass := cls, windows := w }
    ⟨q, .ok, q.closerSettings⟩

def pocketBytes (x : Pocket) : List Byte := byte x.state.code :: optional be2 x.book

/-- READ CLOSER (R121). -/
def answerReadCloser (t : Ticket) (p : Part) : Answer :=
  match t.body with
  | [_] =>
    ⟨p, .ok,
      byte p.closer.state.code :: optional (fun cur => byte cur.pocket.code :: be2 cur.book) p.closer.current ++
      pocketBytes p.closer.pocketA ++ pocketBytes p.closer.pocketB ++
      counted (fun k => [byte k.code]) p.closer.requests ++
      optional (fun a => byte a.value :: be2 a.book ++ [byte a.mark.code]) p.closer.active ++
      optional (fun g => byte g.value :: be2 g.book) p.closer.staged ++ [byte p.closer.wireClass] ++
      optional (fun f => byte f.step.code :: be2 f.book ++ [byte f.pocket.code, byte f.cause.code])
        p.closer.faultRecord ++
      p.closer.windows.bytes ++ flag p.closer.hangerEmpty⟩
  | _ => refuse .badLength [] p

end Part

end Sys2Proof.Machine
end

