-- ==== Sys2Proof/Machine/Tracker.lean ====
section
/-! DEFINITION. The Sheet Tracker's own operations: station releases, the gate decision and what follows a freed pocket,
and READ QUEUE. -/

namespace Sys2Proof.Machine

/-- A fault of the sheet's own at the punch or the drill (R16). -/
def Entry.ownFault (e : Entry) : Bool :=
  e.punchResult == some .partStruck || e.punchResult == some .skipped ||
  e.drillResult == some .partDrilled || e.drillResult == some .skipped

namespace Part

/-! ### Station releases (R15) -/

/-- The Punch Controller's completion: the result is written, the entry goes to TO_DRILL, the mid deadline is armed. -/
def releasePunch (result : PunchResult) (skip : Option SkipReason) (faulted : List Nat) (p : Part) : Part :=
  p.modifyOldest .atPunch fun e =>
    { e with stage := .toDrill, punchResult := some result, punchSkip := skip, faultedPins := faulted
             deadline := some ⟨.position, p.posDeadline p.timebase.settings.mid⟩ }

/-- The Drill Controller's completion: the result is written, the entry goes to TO_GATE, the run-out deadline is armed. -/
def releaseDrill (result : DrillResult) (skip : Option SkipReason) (faulted : List Idx4) (p : Part) : Part :=
  p.modifyOldest .atDrill fun e =>
    { e with stage := .toGate, drillResult := some result, drillSkip := skip, faultedSpindles := faulted
             deadline := some ⟨.position, p.posDeadline p.timebase.settings.runOut⟩ }

/-! ### The gate (R16 to R18, R137) -/

/-- The pocket-wait condition is raised: RUN goes to HOLD (R137). -/
def raiseWait (p : Part) : Part :=
  p.onSup fun u => { u with pocketWait := true, line := if u.line = .run then .hold else u.line }

/-- The pocket-wait condition is withdrawn: HOLD goes to RUN (R137). -/
def withdrawWait (p : Part) : Part :=
  p.onSup fun u =>
    if u.pocketWait then { u with pocketWait := false, line := if u.line = .hold then .run else u.line } else u

/-- The entry AT_GATE drops to a destination: drop deadline, gate output, no more waiting (R16, R17). -/
def dropTo (d : Dest) (p : Part) : Part :=
  let q := p.modifyOldest .atGate fun e =>
    { e with stage := .dropping, destination := some d
             deadline := some ⟨.time, p.msDeadline p.timebase.settings.drop⟩ }
  (q.onTracker fun t => { t with gate := d }).withdrawWait

/-- A pocket is granted to a book (R17, R104). -/
def grant (k : PocketId) (n : Nat) (p : Part) : Part :=
  (p.setPocket k ⟨.gathering, some n⟩).updateBook n fun b => { b with pocket := some k }

/-- The gate decision for the entry AT_GATE (R16, R17). -/
def gateDecide (p : Part) : Part :=
  match p.oldest .atGate with
  | none => p
  | some e =>
    match e.isVoid, p.book? e.book with
    | true, _ => p.dropTo .reject
    | false, none => p.dropTo .reject
    | false, some b =>
      if b.state = .spoiled then p.dropTo .reject
      else if e.ownFault then (p.spoil e.book .sheetFault false).dropTo .reject
      else
        match b.pocket, p.freePocket with
        | some k, _ => p.dropTo k.dest
        | none, some k => (p.grant k e.book).dropTo k.dest
        | none, none => p.raiseWait

/-- What follows in the same event when a pocket may have freed, a book may have been spoiled or a take condition may
have come to hold: in HOLD the waiting sheet's decision is retaken (R18), and the closer tests its take conditions
(R106); in that order (log 23). -/
def follow (p : Part) : Part :=
  (if p.sup.line = .hold ∧ p.sup.pocketWait = true then p.gateDecide else p).tryTake

/-- Eject-done in EJECT (R109). -/
def ejectDone (p : Part) : Part := if p.closer.state = .eject then p.ejectBound.follow else p

/-- Dump-done in DUMP (R110). -/
def dumpDone (p : Part) : Part := if p.closer.state = .dump then p.dumpEmptied.follow else p

/-! ### READ QUEUE (R24) -/

/-- One entry of the window, with its position. -/
def queueItem (position : Nat) (e : Entry) : List Byte :=
  byte position :: halfBytes e.sequence ++ be2 e.book ++ [byte e.leaf, byte e.role, byte e.face, byte e.pattern] ++
  optional (fun v => [byte v.code]) e.voidReason ++ [byte e.stage.code] ++
  optional (fun d => byte d.kind.code :: countBytes d.count) e.deadline ++
  optional (fun d => [byte d.code]) e.destination ++
  optional (fun r => [byte r.code]) e.punchResult ++ optional (fun r => [byte r.code]) e.punchSkip ++
  optional (fun r => [byte r.code]) e.drillResult ++ optional (fun r => [byte r.code]) e.drillSkip ++
  [byte e.faultedPins.length, byte e.faultedSpindles.length] ++ optional (fun o => [byte o.code]) e.outcome

/-- The entries from a position on, with their positions. -/
def queueItems (position : Nat) : List Entry → List Byte
  | [] => []
  | e :: rest => queueItem position e ++ queueItems (position + 1) rest

/-- READ QUEUE (R24). -/
def answerReadQueue (t : Ticket) (p : Part) : Answer :=
  match t.body with
  | [_, start, count] =>
    if 23 < start.toNat ∨ !inRange 1 4 count.toNat then refuse .badField [] p
    else
      let window := (p.tracker.queue.drop start.toNat).take count.toNat
      ⟨p, .ok, [byte p.tracker.queue.length, byte p.waitingCount, byte window.length] ++
        queueItems start.toNat window⟩
  | _ => refuse .badLength [] p

end Part

end Sys2Proof.Machine
end

