-- ==== Sys2Proof/Machine/Books.lean ====
section
/-! DEFINITION. The Book Assembler: the book checks at admission, and AMEND BOOK, CANCEL BOOK, READ BOOK. -/

namespace Sys2Proof.Machine

/-- The Assembler's answer to a ticket (R7). -/
inductive BookAnswer where
  | continues
  | opens (h : BookHeader)
  | void (r : VoidReason)
deriving DecidableEq, Repr

namespace Part

/-! ### Checks at admission -/

/-- The cut-short test of R32. -/
def cutShort (n : Nat) (p : Part) : Part :=
  match p.books.tailBook with
  | none => p
  | some tail =>
    match p.book? tail with
    | none => p
    | some b => if tail ≠ n ∧ b.admitted < b.expected then p.spoil tail .shortBook true else p

/-- A ticket that names the tail book, judged against its record (R33). -/
def judgeTail (f : SheetFields) (b : Book) (p : Part) : Part × BookAnswer :=
  if b.admitted < b.expected ∧ f.leaf = b.lastLeaf + 1 then
    if (p.pattern? f.pattern).isSome then (p, .continues)
    else (p.spoil f.book .voidLeaf true, .void .noPattern)
  else (p.spoil f.book .voidLeaf true, .void .leafOrder)

/-- A ticket that asks to open a book (R34). -/
def judgeOpening (f : SheetFields) (h : BookHeader) (p : Part) : BookAnswer :=
  if (p.book? f.book).isSome then .void .duplicateBook
  else if Config.bookRecords ≤ p.books.records.length then .void .tableFull
  else if p.closer.wireClass = 0 ∨ p.closer.wireClass ≠ h.wireClass then .void .wireMismatch
  else if (p.pattern? f.pattern).isNone then .void .noPattern
  else .opens h

/-- The record of the tail book, when the ticket names it. -/
def tailRecord (n : Nat) (p : Part) : Option Book := if p.books.tailBook = some n then p.book? n else none

/-- The book checks after the cut-short test: exactly one of R33, R34 and R35. -/
def judgeBook (f : SheetFields) (p : Part) : Part × BookAnswer :=
  match p.tailRecord f.book, f.header with
  | some b, _ => p.judgeTail f b
  | none, some h => (p, p.judgeOpening f h)
  | none, none => (p, .void (if (p.book? f.book).isSome then .leafOrder else .noBook))

/-- A continuation counts into its book (R36). -/
def continueBook (f : SheetFields) (p : Part) : Part :=
  let count (b : Book) : Book :=
    let c := { b with admitted := b.admitted + 1, inQueue := b.inQueue + 1, lastLeaf := f.leaf }
    if c.state = .opened ∧ c.admitted = c.expected then c.enter .filled else c
  ((p.updateBook f.book count).endTest f.book).onBooks fun t => { t with tailBook := some f.book }

/-- A record is created at the end of the opening order (R29, R34); it takes the opening entry's serial number. -/
def openBook (f : SheetFields) (h : BookHeader) (p : Part) : Part :=
  let b : Book :=
    { id := p.tracker.nextId, number := f.book, state := .opened, expected := h.expected, admitted := 1, gathered := 0
      diverted := 0, lost := 0, inQueue := 1, wireClass := h.wireClass, loopCount := h.loopCount
      hanger := h.hanger == 1, pocket := none, spoilReason := none, generation := 0, openingSeq := f.sequence
      lastLeaf := 1, outcome := none }
  p.onBooks fun t => { t with records := t.records ++ [b], tailBook := some f.book }

/-! ### Requests -/

/-- The book's count was moved into active at a cut-done (R48, R112). -/
def loaded (b : Book) (p : Part) : Bool :=
  p.closer.active.any fun a => a.id == b.id && a.mark == .atCut

/-- R45's check 4. -/
def amendable (b : Book) (p : Part) : Bool :=
  b.state != .closing && b.state != .spoiled && b.state != .ended && !p.loaded b

/-- An accepted amend (R45). -/
def amend (b : Book) (loops : Nat) (p : Part) : Part :=
  (p.updateBook b.number fun x => { x with loopCount := loops, generation := x.generation + 1 }).onCloser fun c =>
    match c.staged with
    | some g => if g.id = b.id then { c with staged := some { g with value := loops } } else c
    | none => c

/-- AMEND BOOK (R45). -/
def answerAmendBook (t : Ticket) (p : Part) : Answer :=
  match t.body with
  | [_, b1, b2, generation, loops] =>
    match p.book? (nat2 b1 b2) with
    | none => refuse .unknownBook [] p
    | some b =>
      let now := be2 b.number ++ [b.generation, byte b.state.code]
      if b.generation ≠ generation then refuse .stale now p
      else if !p.amendable b then refuse .notAmendable now p
      else if !inRange 6 60 loops.toNat then refuse .badField now p
      else ⟨p.amend b loops.toNat, .ok, be2 b.number ++ [b.generation + 1, loops]⟩
  | _ => refuse .badLength [] p

/-- CANCEL BOOK (R47). -/
def answerCancelBook (t : Ticket) (p : Part) : Answer :=
  match t.body with
  | [_, b1, b2] =>
    match p.book? (nat2 b1 b2) with
    | none => refuse .unknownBook [] p
    | some b =>
      if b.state = .closing ∨ b.state = .ended then refuse .wrongState (be2 b.number ++ [byte b.state.code]) p
      else
        let q := (p.spoil b.number .cancelled true).follow
        let c := (q.book? b.number).getD b
        ⟨q, .ok, be2 b.number ++ [c.generation, byte c.state.code, codeOr0 SpoilReason.code c.spoilReason]⟩
  | _ => refuse .badLength [] p

/-- Every field of a record in R29's order (R48, R189). -/
def bookBytes (b : Book) : List Byte :=
  be2 b.number ++ [byte b.state.code, byte b.expected, byte b.admitted, byte b.gathered, byte b.diverted, byte b.lost,
    byte b.inQueue, byte b.wireClass, byte b.loopCount, byte (yesNo b.hanger), codeOr0 PocketId.code b.pocket] ++
  optional (fun r => [byte r.code]) b.spoilReason ++ b.generation :: halfBytes b.openingSeq ++ [byte b.lastLeaf] ++
  optional (fun o => [byte o.code]) b.outcome

/-- READ BOOK (R48). -/
def answerReadBook (t : Ticket) (p : Part) : Answer :=
  match t.body with
  | [_, b1, b2] =>
    match p.book? (nat2 b1 b2) with
    | none => refuse .unknownBook [] p
    | some b => ⟨p, .ok, bookBytes b ++ flag (p.loaded b)⟩
  | _ => refuse .badLength [] p

end Part

end Sys2Proof.Machine
end

