-- ==== Sys2Proof/WellFormed.lean ====
section
/-! DEFINITION. The checks on a command that its types do not make: coil numbers lie in 1 to 49, and a latch-check
report names each coil once, in ascending order. -/

namespace Sys2Proof

/-- A coil is one of the 48 pins or the notch, the 49th (R67). -/
def coilOk (c : Nat) : Bool := 1 ≤ c && c ≤ 49

/-- Strictly ascending. -/
def ascending : List Nat → Bool
  | [] => true
  | [_] => true
  | a :: b :: rest => a < b && ascending (b :: rest)

/-- A command that an event of the hardware can carry. -/
def WellFormed : Instr → Bool
  | .latchCheckReport notOk => notOk.all (fun c => coilOk c.1) && ascending (notOk.map (·.1))
  | .overCurrent coil => coilOk coil
  | _ => true

end Sys2Proof
end

