-- ==== Sys2Proof/Machine/Patterns.lean ====
section
/-! DEFINITION. The Pattern Store: a sheet's treatment (R60 to R63), LOAD PATTERN, CLEAR PATTERN, READ PATTERN. -/

namespace Sys2Proof

/-- The mirror of a spindle: s becomes 5 − s (R61). -/
def Idx4.mirror : Idx4 → Idx4
  | .i1 => .i4
  | .i2 => .i3
  | .i3 => .i2
  | .i4 => .i1

end Sys2Proof

namespace Sys2Proof.Machine

/-! ### Treatment -/

/-- Pins mirrored for a face-DOWN sheet, p to 49 − p, back in ascending order (R61). -/
def mirrorPins (pins : List Nat) : List Nat := (pins.map (fun n => 49 - n)).reverse

/-- Spindles mirrored for a face-DOWN sheet (R61). -/
def mirrorSpindles (l : List Idx4) : List Idx4 := Idx4.sorted (l.map Idx4.mirror)

/-- The treatment of a sheet of a role and a face, from its pattern and its book's hanger (R61 to R63). -/
def resolve (d : PatternDef) (role face : Nat) (hanger : Bool) : Treatment :=
  let board := Role.ofCode? role == some .board
  let down := Face.ofCode? face == some .down
  let pins := if board then [] else if down then mirrorPins d.pins else d.pins
  let notch := !board && d.notch && hanger
  { pins := pins, notch := notch
    die := if pins = [] ∧ notch = false then none else some d.die
    spindles := if down then mirrorSpindles d.drill else d.drill }

/-- The effective required set: the pins, and the notch last when it is required (R63). -/
def Treatment.required (t : Treatment) : List Nat := t.pins ++ (if t.notch then [Config.notchCoil] else [])

/-- The treatment of a queue entry, resolved now (R60). -/
def Part.treatment (e : Entry) (p : Part) : Treatment :=
  resolve ((p.pattern? e.pattern).getD .blank) e.role e.face ((p.book? e.book).elim false Book.hanger)

/-! ### Requests -/

/-- The fields of a LOAD PATTERN body (R189). -/
structure LoadFields where
  number   : Nat
  die      : Nat
  notch    : Byte
  pins     : List Nat
  spindles : List Nat
deriving DecidableEq, Repr

/-- The length rule of R56: the counts are in range and the body has just the bytes they ask for. -/
def loadFields? (body : List Byte) : Option LoadFields :=
  match body with
  | _ :: number :: die :: notch :: n :: rest =>
    match rest.drop n.toNat with
    | m :: spindles =>
      if n.toNat ≤ 48 ∧ m.toNat ≤ 4 ∧ spindles.length = m.toNat then
        some ⟨number.toNat, die.toNat, notch, (rest.take n.toNat).map BitVec.toNat, spindles.map BitVec.toNat⟩
      else none
    | [] => none
  | _ => none

/-- The field rule of R56: the pattern that the fields give, with its spindles in ascending order. -/
def LoadFields.pattern? (f : LoadFields) : Option PatternDef :=
  match yesNoField? f.notch, f.spindles.mapM Idx4.ofNat? with
  | some notch, some spindles =>
    if inRange 1 63 f.number && inRange 1 7 f.die && f.pins.all (inRange 1 48) && ascending f.pins &&
        decide spindles.Nodup then
      some ⟨.kind f.die, f.pins, notch, Idx4.sorted spindles⟩
    else none
  | _, _ => none

namespace Part

def patternStateCode (n : Nat) (p : Part) : Nat := if (p.pattern? n).isSome then 2 else 1

/-- Pattern number, state, use count. -/
def patternBytes (n : Nat) (p : Part) : List Byte := [byte n, byte (p.patternStateCode n), byte (p.useCount n)]

/-- LOAD PATTERN (R56). -/
def answerLoadPattern (t : Ticket) (p : Part) : Answer :=
  match loadFields? t.body with
  | none => refuse .badLength [] p
  | some f =>
    match f.pattern? with
    | none => refuse .badField [] p
    | some d =>
      if 0 < p.useCount f.number then refuse .inUse (p.patternBytes f.number) p
      else
        let q := p.setPattern f.number fun x => { x with loaded := some d }
        ⟨q, .ok, q.patternBytes f.number⟩

/-- CLEAR PATTERN (R57). -/
def answerClearPattern (t : Ticket) (p : Part) : Answer :=
  match t.body with
  | [_, number] =>
    let n := number.toNat
    if !inRange 1 63 n then refuse .badField [] p
    else if 0 < p.useCount n then refuse .inUse (p.patternBytes n) p
    else
      let q := p.setPattern n fun x => { x with loaded := none }
      ⟨q, .ok, q.patternBytes n⟩
  | _ => refuse .badLength [] p

/-- The four fields that R58 makes absent for an EMPTY entry, each with its own presence byte (R189): the die kind, the
pin count and pins, the notch, the spindle count and spindles. -/
def patternFields (d : Option PatternDef) : List Byte :=
  optional (fun d => [byte d.die.code]) d ++ optional (fun d => counted (fun n => [byte n]) d.pins) d ++
  optional (fun d => [byte (yesNo d.notch)]) d ++ optional (fun d => counted (fun i => [byte i.toNat]) d.drill) d

/-- READ PATTERN (R58). -/
def answerReadPattern (t : Ticket) (p : Part) : Answer :=
  match t.body with
  | [_, number] =>
    if 63 < number.toNat then refuse .badField [] p
    else ⟨p, .ok, p.patternBytes number.toNat ++ patternFields (p.pattern? number.toNat)⟩
  | _ => refuse .badLength [] p

end Part

end Sys2Proof.Machine
end

