-- ==== Sys2Proof/Machine/Drill.lean ====
section
/-! DEFINITION. The Drill Controller: setup, the spindle cycle, its part of a halt, a link reset and CLEAR FAULTS, SET
PROFILE, MAP SPINDLES, READ DRILL. -/

namespace Sys2Proof.Machine

namespace Spindle

/-- The profile a spindle runs under: its copy (R84). -/
def profile (x : Spindle) : Profile :=
  match x.copy with
  | some c => c.profile
  | none => .reset

/-- A spindle belongs to no cycle: copy, count and mark dropped, levels kept (R84). -/
def toIdle (x : Spindle) : Spindle :=
  { x with state := .idle, copy := none, passes := 0, timedOut := false, deadline := none }

/-- A spindle enters FAULT: copy, count and mark dropped, levels kept (R93). -/
def toFault (x : Spindle) : Spindle := { x.toIdle with state := .fault }

/-- A spindle is feeding, dwelling or drawing up. -/
def working (x : Spindle) : Bool := x.state == .plunge || x.state == .dwell || x.state == .retract

/-- Enter RETRACT at a millisecond count; where spindle-up shows already, the pass ends at once in `after` (R92). -/
def retractThen (after : Spindle → Spindle) (now : Count) (x : Spindle) : Spindle :=
  let y := { x with state := .retract, deadline := some (now + BitVec.ofNat 32 x.profile.retractWindow) }
  if y.upLevel then after y else y

/-- Enter DWELL; a dwell of 0 runs out in the same event (R90). -/
def dwellThen (after : Spindle → Spindle) (now : Count) (x : Spindle) : Spindle :=
  if x.profile.dwell = 0 then x.retractThen after now
  else { x with state := .dwell, deadline := some (now + BitVec.ofNat 32 x.profile.dwell) }

/-- Enter PLUNGE with some passes remaining, or DONE with none; where spindle-down shows already, the spindle goes on
to DWELL in the same event (R90, R92). -/
def plunge (now : Count) : Nat → Spindle → Spindle
  | 0, x => { x with state := .done, passes := 0, deadline := none }
  | n + 1, x =>
    let y := { x with state := .plunge, passes := n + 1
                      deadline := some (now + BitVec.ofNat 32 x.profile.plungeWindow) }
    if y.downLevel then y.dwellThen (plunge now n) now else y

/-- A pass ends: the passes remaining fall by one, or stay at 0 (R92). -/
def endPass (now : Count) (x : Spindle) : Spindle := plunge now (x.passes - 1) x

def enterRetract (now : Count) (x : Spindle) : Spindle := x.retractThen (endPass now) now
def enterDwell (now : Count) (x : Spindle) : Spindle := x.dwellThen (endPass now) now

/-- No further pass is made: drawn up with the passes remaining at 0 (R91, R96). -/
def drawUp (now : Count) (x : Spindle) : Spindle := { x with passes := 0 }.enterRetract now

/-- A spindle at halt entry or link reset (R96). -/
def atHalt (now : Count) (x : Spindle) : Spindle :=
  match x.state with
  | .plunge | .dwell => x.drawUp now
  | .retract => { x with passes := 0 }
  | .idle | .done | .fault => x

/-- A cycle spindle as the cycle is broken off (R95). -/
def breakOff (now : Count) (x : Spindle) : Spindle :=
  match x.state with
  | .plunge | .dwell => { x with timedOut := true }.drawUp now
  | .retract => { x with passes := 0, timedOut := true }
  | .idle | .done | .fault => x

end Spindle

namespace Part

def spindle (i : Idx4) (p : Part) : Spindle := p.drill.spindles.get i

def onSpindle (i : Idx4) (f : Spindle → Spindle) (p : Part) : Part :=
  p.onDrill fun d => { d with spindles := d.spindles.set i (f (d.spindles.get i)) }

/-- The station is busy while any spindle is in a state other than IDLE (R87). -/
def drillBusy (p : Part) : Bool := p.drill.spindles.toList.any fun x => x.state != .idle

/-! ### The end of a cycle -/

/-- No cycle spindle is at work: each has reached DONE or FAULT (R92). -/
def cycleOver (p : Part) : Bool := p.drill.cycle != [] && p.drill.cycle.all fun i => !(p.spindle i).working

/-- Actions 1 to 3 of R92, when the cycle is over. -/
def endDrillCycle (p : Part) : Part :=
  if p.cycleOver then
    let result : DrillResult := if p.drill.faulted = [] then .drilled else .partDrilled
    let q := if p.drill.held then p.releaseDrill result none p.drill.faulted else p
    q.onDrill fun d =>
      { d with spindles := d.spindles.map fun x => if x.state = .done then x.toIdle else x
               cycle := [], held := false, faulted := [] }
  else p

/-! ### Setup -/

/-- One spindle at the start of a cycle: profile copied by the map, passes set, PLUNGE (R88). -/
def startSpindle (p : Part) (i : Idx4) : Part :=
  p.onDrill fun d =>
    let number := d.map.get i
    let f := d.profiles.get number
    let passes := if f.mode = .peck then f.peckCount else 1
    let x := { d.spindles.get i with copy := some ⟨number, f⟩, timedOut := false }
    { d with spindles := d.spindles.set i (x.plunge p.timebase.millis passes) }

/-- Start the cycle (R88). -/
def startCycle (spindles : List Idx4) (p : Part) : Part :=
  let q := p.onDrill fun d => { d with cycle := spindles, held := true, faulted := [] }
  (spindles.foldl startSpindle q).endDrillCycle

/-- Drill setup, the checks of R88 in order. -/
def drillSetup (p : Part) : Part :=
  match p.oldest .atDrill with
  | none => p
  | some e =>
    if e.isVoid then p.releaseDrill .skipped (some .voidEntry) []
    else if p.bookSpoiled e.book then p.releaseDrill .skipped (some .bookSpoiled) []
    else if (p.treatment e).spindles = [] then p.releaseDrill .notRequired none []
    else if !p.effective .drill then p.releaseDrill .skipped (some .stationOff) []
    else p.startCycle (p.treatment e).spindles

/-- An entry is handed over: setup at once when the station is not busy, else it becomes the pending setup (R88). -/
def handToDrill (p : Part) : Part :=
  if p.drillBusy then p.onDrill fun d => { d with pendingSetup := true } else p.drillSetup

/-- The end test of a cycle, and the pending setup behind it (R92). -/
def afterSpindle (p : Part) : Part :=
  let q := p.endDrillCycle
  if q.drill.pendingSetup = true ∧ q.drillBusy = false then
    (q.onDrill fun d => { d with pendingSetup := false }).drillSetup
  else q

/-! ### Spindle events -/

/-- The spindle-down event and its level (R84, R90). -/
def spindleReachesBottom (i : Idx4) (p : Part) : Part :=
  let q := p.onSpindle i fun x => { x with downLevel := true }
  if (q.spindle i).state = .plunge then (q.onSpindle i (Spindle.enterDwell p.timebase.millis)).afterSpindle else q

/-- The dwell time runs out (R90). -/
def dwellEnds (i : Idx4) (p : Part) : Part := (p.onSpindle i (Spindle.enterRetract p.timebase.millis)).afterSpindle

/-- Add a spindle to the cycle's faulted list (R91). -/
def addFaulted (i : Idx4) (p : Part) : Part :=
  p.onDrill fun d => { d with faulted := Idx4.sorted (i :: d.faulted) }

/-- The plunge window runs out (R91). -/
def plungeFails (i : Idx4) (p : Part) : Part :=
  ((p.addFaulted i).onSpindle i fun x => { x with timedOut := true }.drawUp p.timebase.millis).afterSpindle

/-- The spindle-up event and its level (R84, R92). -/
def spindleReachesTop (i : Idx4) (p : Part) : Part :=
  let q := p.onSpindle i fun x => { x with upLevel := true }
  if (q.spindle i).state = .retract then (q.onSpindle i (Spindle.endPass p.timebase.millis)).afterSpindle else q

/-- The drill guard opens with the line IDLE: the cycle is broken off (R95). -/
def drillGuardInIdle (p : Part) : Part :=
  let hit := p.drill.cycle.filter fun i => (p.spindle i).working
  let q := hit.foldl (fun q i => (q.addFaulted i).onSpindle i (Spindle.breakOff p.timebase.millis)) p
  if p.drill.cycle = [] then p else q.afterSpindle

/-- The book of the entry the controller holds (R156). -/
def drillConcerned (p : Part) : Option Nat :=
  if p.drill.held then
    match p.oldest .atDrill with
    | some e => if e.isVoid then none else some e.book
    | none => none
  else none

/-! ### Halt, link reset, CLEAR FAULTS -/

/-- Halt entry and link reset at the drill (R96). -/
def haltDrill (p : Part) : Part :=
  (p.onDrill fun d =>
    { d with held := false, pendingSetup := false
             spindles := d.spindles.map (Spindle.atHalt p.timebase.millis) }).endDrillCycle

/-- CLEAR FAULTS at the drill (R100). -/
def clearDrill (p : Part) : Part :=
  p.onDrill fun d =>
    { d with spindles := d.spindles.map fun x => if x.state = .fault ∧ x.upLevel = true then x.toIdle else x }

/-! ### Requests -/

def profileBytes (i : Idx4) (p : Part) : List Byte := byte i.toNat :: (p.drill.profiles.get i).bytes

/-- The profile of a number, where the number is in range; the reply of a refused SET PROFILE (R97). -/
def profileIfAny (n : Nat) (p : Part) : List Byte :=
  match Idx4.ofNat? n with
  | some i => p.profileBytes i
  | none => []

/-- The profile that the fields of a SET PROFILE body give, where each is in its range (R85, R97). -/
def profileFields? (body : List Byte) : Option Profile :=
  match modeField? (bodyByte body 2) with
  | none => none
  | some m =>
    let f : Profile := ⟨m, (bodyByte body 3).toNat, bodyHalf body 4, bodyHalf body 6, bodyHalf body 8⟩
    if inRange 2 8 f.peckCount && inRange 10 2000 f.plungeWindow && inRange 0 1000 f.dwell &&
        inRange 10 2000 f.retractWindow then some f
    else none

/-- SET PROFILE (R97). -/
def answerSetProfile (t : Ticket) (p : Part) : Answer :=
  let number := (bodyByte t.body 1).toNat
  if t.body.length ≠ 10 then refuse .badLength [] p
  else if p.sup.line = .run ∨ p.sup.line = .hold then refuse .wrongState (p.profileIfAny number) p
  else
    match Idx4.ofNat? number, profileFields? t.body with
    | some i, some f =>
      let q := p.onDrill fun x => { x with profiles := x.profiles.set i f }
      ⟨q, .ok, q.profileBytes i⟩
    | _, _ => refuse .badField (p.profileIfAny number) p

def mapBytes (p : Part) : List Byte := p.drill.map.toList.map fun i => byte i.toNat

/-- MAP SPINDLES (R98). -/
def answerMapSpindles (t : Ticket) (p : Part) : Answer :=
  match t.body with
  | [_, a, b, c, d] =>
    if p.sup.line = .run ∨ p.sup.line = .hold then refuse .wrongState p.mapBytes p
    else
      match Idx4.ofNat? a.toNat, Idx4.ofNat? b.toNat, Idx4.ofNat? c.toNat, Idx4.ofNat? d.toNat with
      | some a, some b, some c, some d =>
        let q := p.onDrill fun x => { x with map := ⟨a, b, c, d⟩ }
        ⟨q, .ok, q.mapBytes⟩
      | _, _, _, _ => refuse .badField p.mapBytes p
  | _ => refuse .badLength p.mapBytes p

/-- One spindle in READ DRILL: state, levels and, in a cycle, the copy's number, the passes and the mark (R99). -/
def spindleBytes (x : Spindle) : List Byte :=
  byte x.state.code :: flag x.downLevel ++ flag x.upLevel ++
  optional (fun c => [byte c.number.toNat, byte x.passes] ++ flag x.timedOut)
    (if x.state = .idle ∨ x.state = .fault then none else x.copy)

/-- The sequence of the entry AT_DRILL. -/
def drillSequence (p : Part) : Option Half := (p.oldest .atDrill).map Entry.sequence

/-- READ DRILL (R99). -/
def answerReadDrill (t : Ticket) (p : Part) : Answer :=
  match t.body with
  | [_] =>
    ⟨p, .ok,
      p.drill.profiles.toList.flatMap Profile.bytes ++ p.mapBytes ++ p.drill.spindles.toList.flatMap spindleBytes ++
      counted (fun i => [byte i.toNat]) p.drill.cycle ++
      optional halfBytes (if p.drill.held then p.drillSequence else none) ++
      counted (fun i => [byte i.toNat]) p.drill.faulted ++
      optional halfBytes (if p.drill.pendingSetup then p.drillSequence else none)⟩
  | _ => refuse .badLength [] p

end Part

end Sys2Proof.Machine
end

