-- ==== Sys2Proof/Machine/Punch.lean ====
section
/-! DEFINITION. The Punch Controller: strike setup, engagement, the ram cycle, over-current, its part of a halt, a link
reset and CLEAR FAULTS, SET PUNCH. -/

namespace Sys2Proof.Machine

/-- The sampled die is the die to compare; 0 always differs (R69). -/
def dieMatches (die : Option DieKind) (lines : BitVec 3) : Bool :=
  match die with
  | some (.kind n) => lines.toNat != 0 && lines.toNat == n
  | _ => false

namespace Part

/-! ### The pin health map (R67); coil c, 1 to 49, is item c − 1 -/

def coilHealth (c : Nat) (p : Part) : PinHealth :=
  if h : c - 1 < 49 then p.punch.health[c - 1] else .ok

def markCoil (c : Nat) (v : PinHealth) (p : Part) : Part :=
  if h : 1 ≤ c ∧ c - 1 < 49 then p.onPunch fun x => { x with health := x.health.set (c - 1) v h.2 } else p

/-! ### Setup -/

/-- The controller enters IDLE: every latch released, nothing held (R68). -/
def idlePunch (p : Part) : Part :=
  p.onPunch fun x =>
    { x with state := .idle, treatment := none, engaged := [], faulted := [], brokenOff := false, held := false
             deadline := none }

/-- The controller enters ENGAGE for the entry at its stops (R71). -/
def engage (t : Treatment) (p : Part) : Part :=
  p.onPunch fun x =>
    { x with state := .engage, treatment := some t, engaged := t.required, faulted := [], brokenOff := false
             held := true, deadline := none }

/-- Strike setup, the checks of R69 in order. -/
def strikeSetup (p : Part) : Part :=
  match p.oldest .atPunch with
  | none => p
  | some e =>
    if e.isVoid then p.releasePunch .skipped (some .voidEntry) []
    else if p.bookSpoiled e.book then p.releasePunch .skipped (some .bookSpoiled) []
    else
      let t := p.treatment e
      let bad := t.required.filter fun c => p.coilHealth c != .ok
      if t.required = [] then p.releasePunch .notRequired none []
      else if !p.effective .punch then p.releasePunch .skipped (some .stationOff) []
      else if !dieMatches t.die p.punch.dieLines then p.releasePunch .skipped (some .dieMismatch) []
      else if bad ≠ [] then p.releasePunch .skipped (some .pinFault) bad
      else p.engage t

/-- An entry is handed over: setup at once in IDLE, else it becomes the pending setup (R69). -/
def handToPunch (p : Part) : Part :=
  if p.punch.state = .idle then p.strikeSetup else p.onPunch fun x => { x with pendingSetup := true }

/-- A pending setup is taken as the controller becomes IDLE (R69, R75). -/
def pendingPunch (p : Part) : Part :=
  if p.punch.state = .idle ∧ p.punch.pendingSetup = true then
    (p.onPunch fun x => { x with pendingSetup := false }).strikeSetup
  else p

/-! ### Engagement -/

/-- An engagement ends with the sheet skipped; the ram is not moved (R72, R73, R77). -/
def endEngagement (why : SkipReason) (faulted : List Nat) (p : Part) : Part :=
  (if p.punch.held then p.releasePunch .skipped (some why) faulted else p).idlePunch

/-- The report of the coil monitor in ENGAGE; what it says of coils that are not engaged is dropped (R72, log 19). It is
taken as the report of the engagement that stands: for one of an earlier engagement that arrives only now the spec has no
rule, and this is the model's choice (log 30). -/
def latchCheck (notOk : List (Nat × CoilFault)) (p : Part) : Part :=
  if p.punch.state = .engage then
    let report := notOk.filter fun r => p.punch.engaged.contains r.1
    let q := report.foldl (fun q r => q.markCoil r.1 (match r.2 with
      | .openCoil => .openCoil
      | .shortCoil => .shortCoil)) p
    if report = [] then
      q.onPunch fun x => { x with state := .strike, deadline := some (p.msDeadline x.ramWindow) }
    else q.endEngagement .pinFault (p.punch.engaged.filter fun c => report.any fun r => r.1 == c)
  else p

/-- The station is no longer effective while the controller is in ENGAGE (R73). -/
def punchLosesEffect (p : Part) : Part :=
  if p.punch.state = .engage ∧ p.effective .punch = false then p.endEngagement .stationOff [] else p

/-- An over-current report (R77). -/
def overCurrent (c : Nat) (p : Part) : Part :=
  let q := p.markCoil c .shortCoil
  if p.punch.engaged.contains c then
    match p.punch.state with
    | .engage => q.endEngagement .pinFault [c]
    | .strike | .ramReturn =>
      q.onPunch fun x => { x with engaged := x.engaged.filter (· != c), faulted := insertAsc c x.faulted }
    | .idle | .fault => q
  else q

/-! ### The ram cycle -/

/-- The ram cycle ends at ram-up (R75). -/
def endRamCycle (p : Part) : Part :=
  let result : PunchResult := if p.punch.faulted = [] ∧ p.punch.brokenOff = false then .struck else .partStruck
  let q := if p.punch.held then p.releasePunch result none p.punch.faulted else p
  q.idlePunch.pendingPunch

/-- The controller enters RETURN; where ram-up shows already, the cycle ends at once (R74, R75). -/
def enterReturn (p : Part) : Part :=
  let q := p.onPunch fun x =>
    { x with state := .ramReturn, deadline := some (p.msDeadline x.returnWindow) }
  if q.punch.ramUpLevel then q.endRamCycle else q

/-- The ram-down event (R74). -/
def ramReachesBottom (p : Part) : Part := if p.punch.state = .strike then p.enterReturn else p

/-- The ram-up event and the level it leaves (R75, R76). -/
def ramReachesTop (p : Part) : Part :=
  let q := p.onPunch fun x => { x with ramUpLevel := true }
  if q.punch.state = .ramReturn then q.endRamCycle else q

/-- The controller enters FAULT; the strike's result is discarded (R76). -/
def faultPunch (p : Part) : Part :=
  p.onPunch fun x =>
    { x with state := .fault, treatment := none, engaged := [], faulted := [], brokenOff := false, held := false
             deadline := none }

/-- The punch guard opens with the line IDLE (R73, R74, R79). -/
def punchGuardInIdle (p : Part) : Part :=
  match p.punch.state with
  | .engage => p.endEngagement .stationOff []
  | .strike => (p.onPunch fun x => { x with brokenOff := true }).enterReturn
  | _ => p

/-- The book of the entry the controller holds (R156). -/
def punchConcerned (p : Part) : Option Nat :=
  if p.punch.held then
    match p.oldest .atPunch with
    | some e => if e.isVoid then none else some e.book
    | none => none
  else none

/-! ### Halt, link reset, CLEAR FAULTS, SET PUNCH -/

/-- Halt entry and link reset at the punch (R80, R81). -/
def haltPunch (p : Part) : Part :=
  let q := p.onPunch fun x => { x with held := false, pendingSetup := false }
  match q.punch.state with
  | .engage => q.idlePunch
  | .strike => q.enterReturn
  | _ => q

/-- CLEAR FAULTS at the punch (R83). -/
def clearPunch (p : Part) : Part :=
  let q := p.onPunch fun x => { x with health := Vector.replicate 49 .ok }
  if q.punch.state = .fault ∧ q.punch.ramUpLevel = true then q.idlePunch else q

def punchSettings (p : Part) : List Byte := be2 p.punch.ramWindow ++ be2 p.punch.returnWindow

/-- SET PUNCH (R82). -/
def answerSetPunch (t : Ticket) (p : Part) : Answer :=
  match t.body with
  | [_, a, b, c, d] =>
    if p.sup.line = .run ∨ p.sup.line = .hold then refuse .wrongState p.punchSettings p
    else if !inRange 10 1000 (nat2 a b) || !inRange 10 1000 (nat2 c d) then refuse .badField p.punchSettings p
    else
      let q := p.onPunch fun x => { x with ramWindow := nat2 a b, returnWindow := nat2 c d }
      ⟨q, .ok, q.punchSettings⟩
  | _ => refuse .badLength p.punchSettings p

end Part

end Sys2Proof.Machine
end

