-- ==== Sys2Proof/Machine/Halts.lean ====
section
/-! DEFINITION. Halts and recovery: raising a cause, halt entry, the secondary record, the link reset of every block,
HALT, RESUME, CLEAR FAULTS and READ HALT. -/

namespace Sys2Proof.Machine

/-- The stages of a sheet in transit (R25). -/
def Stage.inTransit (st : Stage) : Bool := st != .waiting && st != .done

namespace Part

/-! ### Halt entry (R154) -/

/-- Every entry in transit is LOST, and the books of the non-VOID ones are spoiled, in queue order (R25, R49). -/
def loseTransit (p : Part) : Part :=
  let hit := p.tracker.queue.filter fun e => e.stage.inTransit && !e.isVoid
  hit.foldl (fun q e => q.spoil e.book .lineHalt false) (p.finishAll (fun e => e.stage.inTransit) .lost)

/-- The station controllers' reactions (R80, R96, R118). -/
def haltStations (p : Part) : Part := p.haltPunch.haltDrill.haltCloser

/-- What a halt does to every block but the supervisor's records: the line state, the stations, the transit, the
expected sequence, the pocket-wait condition (R154, items 1 and 3 to 5). -/
def stopAll (p : Part) : Part :=
  let q := (p.onSup fun u => { u with line := .halt }).haltStations.loseTransit
  (q.onTracker fun t => { t with expected := none }).onSup fun u => { u with pocketWait := false }

/-- The first record, in opening order, that `after` shows newly spoiled with LINE_HALT (R156). -/
def newlyHalted (before after : Part) : Option ResumePoint :=
  (after.books.records.find? fun b =>
    b.spoilReason == some .lineHalt && (before.recordById? b.id).any fun o => o.spoilReason == none).map
    fun b => ⟨b.number, b.openingSeq⟩

/-- Halt entry (R154 to R158). -/
def enterHalt (cause : Cause) (concerned : Option Nat) (p : Part) : Part :=
  let q := p.stopAll
  let head := p.tracker.queue.head?.map Entry.sequence
  let resume := newlyHalted p q
  q.onSup fun u =>
    { u with haltRecord := some ⟨cause, p.sup.line, head, concerned, p.timebase.position, resume⟩
             secondary := none, more := false
             notice := some ⟨cause, head, concerned, resume, u.notice.isSome⟩ }

/-- A cause taken in HALT (R157). -/
def noteSecondary (cause : Cause) (concerned : Option Nat) (p : Part) : Part :=
  p.onSup fun u =>
    match u.secondary with
    | none => { u with secondary := some ⟨cause, concerned⟩ }
    | some _ => { u with more := true }

/-- A halt cause is raised, with the book concerned as it stood then (R153). -/
def raise (cause : Cause) (concerned : Option Nat) (p : Part) : Part :=
  if p.sup.line = .halt then p.noteSecondary cause concerned else p.enterHalt cause concerned

/-! ### Link reset (R183) -/

/-- One record at a link reset (R51, items 2 and 3). -/
def resetBook (b : Book) : Book :=
  if b.state = .ended then b
  else
    let moved := if b.pocket.isSome then { b with lost := b.lost + b.gathered, gathered := 0, pocket := none } else b
    { moved.enter .ended with
      expected := b.admitted, outcome := some .spoiled
      spoilReason := some (b.spoilReason.getD .linkReset) }

/-- Every record ends; the newly ended take their places in opening order (R51). -/
def resetBooks (p : Part) : Part :=
  p.onBooks fun t =>
    { records := t.records.map resetBook
      endOrder := t.endOrder ++ (t.records.filter fun b => b.state != .ended).map Book.id
      tailBook := none }

/-- The Sheet Tracker at a link reset (R27). -/
def resetTracker (p : Part) : Part :=
  (p.finishAll (fun e => e.stage != .done) .flushed).onTracker fun t => { t with expected := none, gate := .reject }

/-- The Line Supervisor at a link reset (R152, R168). -/
def resetSup (p : Part) : Part :=
  p.onSup fun u =>
    { u with line := .idle, pocketWait := false, driverHotFlag := u.driverHot, haltRecord := none, secondary := none
             more := false }

/-- The link reset of every block in one event; the line is IDLE from its start (R183). -/
def linkReset (p : Part) : Part :=
  (p.resetSup.haltPunch.haltDrill.resetCloser.resetTracker.resetBooks).onPort fun x => { x with linkError := false }

/-! ### HALT, RESUME, CLEAR FAULTS, READ HALT -/

/-- HALT (R160). -/
def answerHalt (t : Ticket) (p : Part) : Answer :=
  match t.body with
  | [_] =>
    let q := p.raise .haltRequest none
    ⟨q, .ok, [byte q.sup.line.code]⟩
  | _ => refuse .badLength [] p

/-- The states of R50 whose records FLUSH spoils. -/
def flushable (b : Book) : Bool := b.state == .opened || b.state == .filled || b.state == .spoiled

/-- RESUME with FLUSH on the queue and the books (R26, R50, R165). -/
def flushWaiting (p : Part) : Part :=
  let q := p.finishAll (fun e => e.stage == .waiting) .flushed
  (q.books.records.filter flushable).foldl (fun q b => q.spoil b.number .flushed true) q

/-- The records that FLUSH newly spoils (R163). -/
def newlyFlushed (p : Part) : Nat := p.books.records.countP fun b => b.state == .opened || b.state == .filled

/-- The line leaves HALT (R163). -/
def leaveHalt (p : Part) : Part := p.onSup fun u => { u with line := .idle }

/-- RESUME (R163 to R165). -/
def answerResume (t : Ticket) (p : Part) : Answer :=
  match t.body with
  | [_, mode] =>
    if p.sup.line ≠ .halt then refuse .wrongState [] p
    else if mode ≠ 1 ∧ mode ≠ 2 then refuse .badField [] p
    else
      match p.resumeCondition with
      | some c => refuse .conditionPresent (c.bytes ++ [byte p.sup.line.code]) p
      | none =>
        if mode = 1 then ⟨p.leaveHalt, .ok, [mode, byte p.leaveHalt.sup.line.code, 0, 0]⟩
        else
          let q := p.flushWaiting.leaveHalt
          ⟨q, .ok, [mode, byte q.sup.line.code, byte p.waitingCount, byte p.newlyFlushed]⟩
  | _ => refuse .badLength [] p

/-- The three fault flags at CLEAR FAULTS (R147). -/
def clearFlags (p : Part) : Part :=
  (p.onSup fun u => { u with powerUpFlag := false, driverHotFlag := u.driverHotFlag && u.driverHot }).onPort
    fun x => { x with linkError := false }

/-- CLEAR FAULTS on every block, with what follows in the same event (R83, R100, R116, R147, R167). -/
def clearFaults (p : Part) : Part := p.clearPunch.clearDrill.clearCloser.clearFlags.follow

def flagBytes (p : Part) : List Byte := flag p.sup.powerUpFlag ++ flag p.port.linkError ++ flag p.sup.driverHotFlag

def spindleStateBytes (p : Part) : List Byte := p.drill.spindles.toList.map fun x => byte x.state.code

/-- CLEAR FAULTS (R167). -/
def answerClearFaults (t : Ticket) (p : Part) : Answer :=
  match t.body with
  | [_] =>
    let q := p.clearFaults
    ⟨q, .ok, [byte q.faultedCoils, byte q.punch.state.code] ++ q.spindleStateBytes ++ [byte q.closer.state.code] ++
      q.flagBytes⟩
  | _ => refuse .badLength [] p

def haltRecordBytes (r : HaltRecord) : List Byte :=
  byte r.cause.code :: r.cause.detail ++ [byte r.lineBefore.code] ++ optional halfBytes r.headSequence ++
  optional be2 r.bookConcerned ++ countBytes r.position ++
  optional (fun x => be2 x.book ++ halfBytes x.sequence) r.resumePoint

def secondaryBytes (r : SecondaryRecord) : List Byte :=
  byte r.cause.code :: r.cause.detail ++ optional be2 r.bookConcerned

/-- Whether a HALT NOTICE is pending: it is until its last symbol has been sent (R158, log 27). -/
def noticePending (p : Part) : Bool :=
  p.sup.notice.isSome || (p.port.sending.any fun x => x.owner == .haltNotice)

/-- READ HALT (R166). -/
def answerReadHalt (t : Ticket) (p : Part) : Answer :=
  match t.body with
  | [_] =>
    ⟨p, .ok, byte p.sup.line.code :: optional haltRecordBytes p.sup.haltRecord ++
      optional secondaryBytes p.sup.secondary ++ flag p.sup.more ++ flag p.noticePending⟩
  | _ => refuse .badLength [] p

end Part

end Sys2Proof.Machine
end

