-- ==== Sys2Proof/Machine/Admission.lean ====
section
/-! DEFINITION. Sheets on the line: the sequence check and the admission of a sheet ticket, and the sheet sensors. -/

namespace Sys2Proof.Machine

namespace Part

/-! ### Admission (R4 to R7) -/

/-- The sequence check: the expected value of a failure, or none where the ticket passes (R5). -/
def sequenceFails (received : Half) (p : Part) : Option Half :=
  match p.tracker.expected with
  | some x => if x = received then none else some x
  | none =>
    match p.tracker.queue.getLast? with
    | some e => if e.sequence = received then some (e.sequence + 1) else none
    | none => none

/-- A new entry joins at the tail with the values of R2; a non-VOID one raises its pattern's use count (R4, R54). -/
def pushEntry (t : Ticket) (f : SheetFields) (why : Option VoidReason) (p : Part) : Part :=
  let e : Entry :=
    { id := p.tracker.nextId, ticket := t, sequence := f.sequence, book := f.book, leaf := f.leaf, role := f.role
      face := f.face, pattern := f.pattern, voidReason := why }
  let q := p.onTracker fun k => { k with queue := k.queue ++ [e], nextId := k.nextId + 1 }
  if why = none then q.raiseUse f.pattern else q

/-- A ticket past the sequence check becomes an entry, after the field checks and the book checks (R6, R7). -/
def admitFields (t : Ticket) (f : SheetFields) (p : Part) : Part :=
  match fieldCheck f with
  | some r => p.pushEntry t f (some r)
  | none =>
    match (p.cutShort f.book).judgeBook f with
    | (q, .void r) => q.pushEntry t f (some r)
    | (q, .continues) => (q.continueBook f).pushEntry t f none
    | (q, .opens h) => (q.openBook f h).pushEntry t f none

def setExpected (x : Option Half) (p : Part) : Part := p.onTracker fun t => { t with expected := x }

/-- Admission of a ticket that carries a sequence and passed its check, or carries none (R5, R188). -/
def admitTicket (t : Ticket) (p : Part) : Part :=
  let f := sheetFields t.body
  let next := if t.body.length < 2 then none else some (f.sequence + 1)
  ((p.setExpected next).admitFields t f).follow

/-! ### Sheet sensors (R9 to R14) -/

/-- The line-state test of R9 for the four sensors before the gate. -/
def senseMoving (s : Sensor) (bind : Part → Part) (p : Part) : Part :=
  match p.sup.line with
  | .run => bind p
  | .hold | .idle => p.raise (.unexpectedMotion s) none
  | .halt => p

/-- The entry sensor in RUN (R10). -/
def bindEntry (double : Bool) (p : Part) : Part :=
  match p.oldest .waiting with
  | none => p.raise .orphanSheet none
  | some e =>
    let q := p.modifyOldest .waiting fun e =>
      { e with stage := .entered, deadline := some ⟨.position, p.posDeadline p.timebase.settings.leadIn⟩ }
    if double then q.raise (.doubleSheet e.sequence) (if e.isVoid then none else some e.book) else q

/-- The oldest entry of one stage moves to a station's stage, its deadline removed; where the station is occupied or
no entry stands there, UNEXPECTED_SHEET is raised (R11 to R13). -/
def bindStation (s : Sensor) (source target : Stage) (hand : Part → Part) (p : Part) : Part :=
  if p.hasStage target || !p.hasStage source then p.raise (.unexpectedSheet s none) none
  else hand (p.modifyOldest source fun e => { e with stage := target, deadline := none })

/-- The destination a landing sensor matches, and its code (R14). -/
def landingDest (l : LandingSensor) : Dest :=
  match l with
  | .pocketA => .pocketA
  | .pocketB => .pocketB
  | .reject => .reject

def landingSensor (l : LandingSensor) : Sensor :=
  match l with
  | .pocketA => .landingA
  | .pocketB => .landingB
  | .reject => .landingReject

/-- The oldest DROPPING entry becomes DONE (R14, R20). -/
def finishLanding (l : LandingSensor) (e : Entry) (p : Part) : Part :=
  let o : Outcome := match l with
    | .reject => .diverted
    | .pocketA | .pocketB => .gathered
  (p.modifyOldest .dropping (Entry.finish o)).countDone o e

/-- A landing event (R14), and what follows in the same event. -/
def sheetLands (l : LandingSensor) (p : Part) : Part :=
  if p.sup.line = .halt then p
  else
    match p.oldest .dropping with
    | none => p.raise (.unexpectedSheet (landingSensor l) none) none
    | some e =>
      if e.destination = some (landingDest l) then (p.finishLanding l e).follow
      else p.raise (.unexpectedSheet (landingSensor l) e.destination) (if e.isVoid then none else some e.book)

def entrySensor (double : Bool) (p : Part) : Part := p.senseMoving .entry (bindEntry double)
def punchRegister (p : Part) : Part :=
  p.senseMoving .punchRegister (bindStation .punchRegister .entered .atPunch handToPunch)
def drillRegister (p : Part) : Part :=
  p.senseMoving .drillRegister (bindStation .drillRegister .toDrill .atDrill handToDrill)
def exitSensor (p : Part) : Part :=
  p.senseMoving .exit (bindStation .exit .toGate .atGate fun q => q.gateDecide.follow)

end Part

end Sys2Proof.Machine
end

