-- ==== Sys2Proof/Machine/Supervisor.lean ====
section
/-! DEFINITION. The Line Supervisor: RUN, STOP, STATIONS, SERVICE, SET LINE, READ STATUS, and its inputs. -/

namespace Sys2Proof.Machine

namespace Part

/-! ### RUN and STOP -/

def lineByte (p : Part) : List Byte := [byte p.sup.line.code]

/-- The line enters RUN from IDLE, with what follows in the same event (R18, R106, R135). -/
def enterRun (p : Part) : Part :=
  let q := p.onSup fun u => { u with line := .run }
  (if q.sup.pocketWait then q.gateDecide else q).tryTake

/-- RUN (R135). -/
def answerRun (t : Ticket) (p : Part) : Answer :=
  match t.body with
  | [_] =>
    match p.sup.line with
    | .halt => refuse .wrongState p.lineByte p
    | .run | .hold => ⟨p, .ok, p.lineByte⟩
    | .idle =>
      match p.runCondition with
      | some c => refuse .conditionPresent (c.bytes ++ p.lineByte) p
      | none => ⟨p.enterRun, .ok, p.enterRun.lineByte⟩
  | _ => refuse .badLength p.lineByte p

/-- STOP (R136). -/
def answerStop (t : Ticket) (p : Part) : Answer :=
  match t.body with
  | [_] =>
    match p.sup.line with
    | .halt => refuse .wrongState p.lineByte p
    | .idle => ⟨p, .ok, p.lineByte⟩
    | .run | .hold =>
      let q := p.onSup fun u => { u with line := .idle }
      ⟨q, .ok, q.lineByte⟩
  | _ => refuse .badLength p.lineByte p

/-! ### Stations -/

/-- After a change of the sets outside a guard event: R73 at the punch, R106 at the closer (R145). -/
def stationsChanged (p : Part) : Part := p.punchLosesEffect.follow

def stationsBytes (p : Part) : List Byte := [p.stations.activation.bits, p.effectiveSet.bits]

/-- STATIONS (R141). -/
def answerStations (t : Ticket) (p : Part) : Answer :=
  match t.body with
  | [_, a, b, c] =>
    if p.sup.line = .run ∨ p.sup.line = .hold then refuse .wrongState p.stationsBytes p
    else if p.timebase.state ≠ .valid then refuse .timebaseNotValid p.stationsBytes p
    else
      match setField? a b c with
      | none => refuse .badField p.stationsBytes p
      | some x =>
        let q := (p.onStations fun s => { s with activation := x }).stationsChanged
        ⟨q, .ok, q.stationsBytes⟩
  | _ => refuse .badLength p.stationsBytes p

def serviceBytes (p : Part) : List Byte :=
  p.stations.outOfService.bits :: flag p.stations.lock ++ [p.effectiveSet.bits]

/-- SERVICE (R143). -/
def answerService (t : Ticket) (p : Part) : Answer :=
  match t.body with
  | [_, a, b, c, lock] =>
    if p.stations.lock then refuse .locked p.serviceBytes p
    else
      match setField? a b c, boolField? lock with
      | some x, some l =>
        let q := (p.onStations fun s => { s with outOfService := x, lock := l }).stationsChanged
        ⟨q, .ok, q.serviceBytes⟩
      | _, _ => refuse .badField p.serviceBytes p
  | _ => refuse .badLength p.serviceBytes p

/-! ### SET LINE -/

def lineSettings (p : Part) : List Byte := byte p.sup.feedMargin :: p.sup.enables.bytes

/-- The five enables of a SET LINE body (R148, R189). -/
def enables? (a b c d e : Byte) : Option Enables :=
  match boolField? a, boolField? b, boolField? c, boolField? d, boolField? e with
  | some a, some b, some c, some d, some e => some ⟨a, b, c, d, e⟩
  | _, _, _, _, _ => none

/-- SET LINE (R149). -/
def answerSetLine (t : Ticket) (p : Part) : Answer :=
  match t.body with
  | [_, margin, a, b, c, d, e] =>
    if p.sup.line = .run ∨ p.sup.line = .hold then refuse .wrongState p.lineSettings p
    else
      match inRange 1 4 margin.toNat, enables? a b c d e with
      | true, some x =>
        let q := p.onSup fun u => { u with feedMargin := margin.toNat, enables := x }
        ⟨q, .ok, q.lineSettings⟩
      | _, _ => refuse .badField p.lineSettings p
  | _ => refuse .badLength [] p

/-! ### READ STATUS (R151) -/

/-- The items of the pin health map that are not OK, in physical order with the notch last. -/
def healthItems (p : Part) : List (Nat × PinHealth) :=
  ((List.range 49).map fun i => (i + 1, p.coilHealth (i + 1))).filter fun x => x.2 != .ok

/-- The payload of READ STATUS, group by group. -/
def statusBytes (p : Part) : List Byte :=
  p.lineByte ++ flag p.sup.pocketWait ++ flag p.transportRun ++ flag p.feedHold ++ [byte p.sup.feedMargin] ++
  [byte p.timebase.state.code] ++
  [p.stations.activation.bits, p.stations.outOfService.bits] ++ flag p.stations.lock ++
  flag p.stations.guardsOpen.punch ++ flag p.stations.guardsOpen.drill ++ flag p.stations.guardsOpen.closer ++
  [p.effectiveSet.bits] ++
  flag p.sup.supplyLow ++ flag p.sup.driverShutdown ++ flag p.sup.driverHot ++ flag p.sup.stopInput ++
  [byte p.punch.dieLines.toNat] ++
  p.flagBytes ++ p.classes.bytes ++ p.sup.enables.bytes ++
  flag p.faultLine ++ [byte p.signal.code] ++
  [byte p.tracker.queue.length, byte p.waitingCount, byte p.books.records.length] ++
  optional halfBytes p.tracker.expected ++
  byte p.punch.state.code :: p.punchSettings ++ counted (fun x => [byte x.1, byte x.2.code]) p.healthItems ++
  p.spindleStateBytes ++
  [byte p.closer.state.code, byte p.closer.pocketA.state.code, byte p.closer.pocketB.state.code,
    byte p.closer.wireClass] ++
  byte p.port.unitAddress :: be2 Config.partCode ++ [byte Config.revision]

/-- READ STATUS (R151). -/
def answerReadStatus (t : Ticket) (p : Part) : Answer :=
  match t.body with
  | [_] => ⟨p, .ok, p.statusBytes⟩
  | _ => refuse .badLength [] p

/-! ### Inputs: each acts on becoming active, once (R144, R146, R147, R161; log 8) -/

/-- The closer guard opens with the line IDLE (R114, R115, R117). -/
def closerGuardInIdle (p : Part) : Part := if p.cycleRunning .closer then p.closerFails .guard else p

/-- A controller's own reaction to its guard opening with the line IDLE (R144). -/
def guardInIdle (s : Station) (p : Part) : Part :=
  match s with
  | .punch => p.punchGuardInIdle
  | .drill => p.drillGuardInIdle
  | .closer => p.closerGuardInIdle

/-- A guard opens (R144). -/
def openGuardOf (s : Station) (p : Part) : Part :=
  if p.stations.guardsOpen.has s then p
  else
    let q := p.onStations fun x => { x with guardsOpen := x.guardsOpen.set true s }
    match p.sup.line with
    | .run | .hold => if p.stations.activation.has s || p.cycleRunning s then q.raise (.guardOpen s) none else q
    | .idle => q.guardInIdle s
    | .halt => q

/-- A guard closes (R144); the closer tests its take conditions (R106). -/
def closeGuardOf (s : Station) (p : Part) : Part :=
  (p.onStations fun x => { x with guardsOpen := x.guardsOpen.set false s }).follow

/-- Supply-low becomes active (R146). -/
def supplyFalls (p : Part) : Part :=
  if p.sup.supplyLow then p
  else
    let q := p.onSup fun u => { u with supplyLow := true }
    if p.sup.line = .idle then q else q.raise .supplyLow none

/-- Driver-shutdown becomes active (R146). -/
def driverShuts (p : Part) : Part :=
  if p.sup.driverShutdown then p
  else
    let q := p.onSup fun u => { u with driverShutdown := true }
    if p.sup.line = .idle then q else q.raise .driverShutdown none

/-- Driver-hot becomes active (R147). -/
def driverHeats (p : Part) : Part := p.onSup fun u => { u with driverHot := true, driverHotFlag := true }

/-- The stop input becomes active (R161). -/
def stopPressed (p : Part) : Part :=
  if p.sup.stopInput then p else (p.onSup fun u => { u with stopInput := true }).raise .externalStop none

/-! ### Power-on and hard reset (R186) -/

/-- A guard, a supply, a stop, a hot or a die line, a sensor: the input levels, which follow the machine (log 6). -/
def keepLevels (old new : Part) : Part :=
  let q := new.onStations fun x => { x with guardsOpen := old.stations.guardsOpen }
  let q := q.onSup fun u =>
    { u with supplyLow := old.sup.supplyLow, driverShutdown := old.sup.driverShutdown, driverHot := old.sup.driverHot
             stopInput := old.sup.stopInput, driverHotFlag := old.sup.driverHot }
  let q := q.onPunch fun x => { x with dieLines := old.punch.dieLines, ramUpLevel := old.punch.ramUpLevel }
  let level (i : Idx4) (x : Spindle) : Spindle :=
    { x with downLevel := (old.spindle i).downLevel, upLevel := (old.spindle i).upLevel }
  let q := q.onDrill fun d =>
    { d with spindles := ⟨level .i1 d.spindles.q1, level .i2 d.spindles.q2, level .i3 d.spindles.q3,
        level .i4 d.spindles.q4⟩ }
  (q.onCloser fun c => { c with hangerEmpty := old.closer.hangerEmpty }).onPort
    fun x => { x with downHold := old.port.downHold }

/-- Every block at its reset value, the unit address sampled, the power-up flag as given (R147, R152, R173, R186). -/
def resetTo (pins : BitVec 5) (powerUp : Bool) (p : Part) : Part :=
  let q := (keepLevels p Part.reset).onPort fun x => { x with unitAddress := pins.toNat }
  q.onSup fun u => { u with powerUpFlag := powerUp }

end Part

end Sys2Proof.Machine
end

