-- ==== Sys2Proof/Machine/Timebase.lean ====
section
/-! DEFINITION. The Timebase: ticks, edges, SET TIMEBASE and START TIMEBASE. -/

namespace Sys2Proof.Machine

namespace Part

/-- A good tick (R126, R128). -/
def goodTick (p : Part) : Part :=
  p.onTimebase fun t =>
    match t.state with
    | .unset => t
    | .valid => { t with millis := t.millis + 1 }
    | .starting | .lost =>
      { t with runCount := t.runCount + 1
               state := if Config.stableRun ≤ t.runCount + 1 then .valid else t.state }

/-- A bad tick, or a gap (R126, R127). -/
def badTick (p : Part) : Part :=
  match p.timebase.state with
  | .unset => p
  | .starting | .lost => p.onTimebase fun t => { t with runCount := 0 }
  | .valid =>
    let q := p.onTimebase fun t => { t with runCount := 0, state := .lost }
    if p.sup.line = .idle then q else q.raise .timebaseLost none

/-- The transitions the edge setting selects (R129). -/
def selects (e : Edge) (x : Transition) : Bool :=
  match e, x with
  | .both, _ => true
  | .rising, .rising => true
  | .falling, .falling => true
  | _, _ => false

/-- An encoder transition (R129). -/
def encoderEdge (x : Transition) (p : Part) : Part :=
  if selects p.timebase.settings.edge x = true ∧ p.timebase.state ≠ .unset ∧ p.transportRun = true then
    p.onTimebase fun t => { t with position := t.position + 1 }
  else p

/-- The settings that the fields of a SET TIMEBASE body give, where each is in its range (R122, R124). -/
def timebaseFields? (body : List Byte) : Option TimebaseSettings :=
  match edgeField? (bodyByte body 2) with
  | none => none
  | some e =>
    let s : TimebaseSettings :=
      ⟨(bodyByte body 1).toNat, e, bodyHalf body 3, bodyHalf body 5, bodyHalf body 7, bodyHalf body 9⟩
    if inRange 1 64 s.scale && inRange 50 2000 s.leadIn && inRange 50 2000 s.mid && inRange 50 2000 s.runOut &&
        inRange 50 3000 s.drop then some s
    else none

def timebaseBytes (p : Part) : List Byte := byte p.timebase.state.code :: p.timebase.settings.bytes

/-- SET TIMEBASE (R124). -/
def answerSetTimebase (t : Ticket) (p : Part) : Answer :=
  if t.body.length ≠ 11 then refuse .badLength [] p
  else if p.timebase.state ≠ .unset then refuse .timebaseLocked p.timebaseBytes p
  else
    match timebaseFields? t.body with
    | none => refuse .badField p.timebaseBytes p
    | some s =>
      let q := p.onTimebase fun x => { x with settings := s }
      ⟨q, .ok, q.timebaseBytes⟩

/-- START TIMEBASE on the timebase (R125). -/
def startTimebase (p : Part) : Part :=
  if p.timebase.state = .unset then
    p.onTimebase fun x => { x with state := .starting, position := 0, millis := 0, runCount := 0 }
  else p

/-- What the reply to START TIMEBASE carries in every case (R125). -/
def startBytes (p : Part) : List Byte :=
  p.timebaseBytes ++ countBytes p.timebase.position ++ countBytes p.timebase.millis ++ [byte p.timebase.runCount]

/-- START TIMEBASE (R125). -/
def answerStartTimebase (t : Ticket) (p : Part) : Answer :=
  match t.body with
  | [_] => ⟨p.startTimebase, .ok, p.startTimebase.startBytes⟩
  | _ => refuse .badLength p.startBytes p

end Part

end Sys2Proof.Machine
end

