-- ==== Sys2Proof/Machine/CommandUnit.lean ====
section
/-! DEFINITION. The Command Unit: when the head of the command list is executed, the request by its code, the reply, and
the completion of a RESET. -/

namespace Sys2Proof.Machine

/-- A request addressed to the unit is answered; a broadcast one, with destination 0, is not (R176, R180). -/
def Item.addressed (it : Item) : Bool := it.ticket.dest != 0

namespace Part

/-! ### When the head is executed (R177, R178) -/

/-- An item is eligible when it has no mark, or once the marked entry has been freed (R23, R177). -/
def eligible (it : Item) (p : Part) : Bool :=
  match it.mark with
  | none => true
  | some i => !p.tracker.queue.any fun e => e.id == i

/-- Output list slots in use, the reserved one included (R175). -/
def slotsUsed (p : Part) : Nat :=
  p.port.outList.length + (if p.cmd.resetting.any ResetProgress.reserved then 1 else 0)

/-- The head of the command list, when it is eligible and no RESET is in progress. -/
def readyHead (p : Part) : Option Item :=
  match p.cmd.list with
  | it :: _ => if p.cmd.resetting.isNone && p.eligible it then some it else none
  | [] => none

/-- The conditions of R178: the request that is executed. -/
def executable (p : Part) : Option Item :=
  match p.readyHead with
  | some it => if !it.addressed || p.slotsUsed < Config.outSlots then some it else none
  | none => none

/-! ### Execution -/

/-- The requests of R179 by their codes (R189); any other code, and an empty body, is an unknown request. RESET
reaches this table only with a wrong length, since a RESET of the right length is executed by `startReset`. -/
def answer (t : Ticket) (p : Part) : Answer :=
  match t.code with
  | 1 => p.answerReadStatus t
  | 2 => p.answerReadQueue t
  | 3 => p.answerReadBook t
  | 4 => p.answerReadPattern t
  | 5 => p.answerReadDrill t
  | 6 => p.answerReadCloser t
  | 7 => p.answerReadHalt t
  | 16 => p.answerRun t
  | 17 => p.answerStop t
  | 18 => p.answerHalt t
  | 19 => p.answerResume t
  | 20 => p.answerClearFaults t
  | 21 => refuse .badLength [] p
  | 32 => p.answerLoadPattern t
  | 33 => p.answerClearPattern t
  | 34 => p.answerSetPunch t
  | 35 => p.answerSetProfile t
  | 36 => p.answerMapSpindles t
  | 37 => p.answerSetCloser t
  | 38 => p.answerSetTimebase t
  | 39 => p.answerStartTimebase t
  | 40 => p.answerStations t
  | 41 => p.answerService t
  | 42 => p.answerSetLine t
  | 48 => p.answerAmendBook t
  | 49 => p.answerCancelBook t
  | _ => refuse .unknownRequest [] p

/-- The codes that R179 knows. -/
def knownCode (c : Nat) : Bool :=
  inRange 1 7 c || inRange 16 21 c || inRange 32 42 c || inRange 48 49 c

def popCommand (p : Part) : Part := p.onCmd fun c => { c with list := c.list.tail }

/-- A reply joins the tail of the output list; a broadcast request has none (R176, R180). -/
def placeReply (it : Item) (result : ResultCode) (payload : List Byte) (p : Part) : Part :=
  if it.addressed then
    p.onPort fun x =>
      { x with outList := x.outList ++ [⟨replyTo x.unitAddress it.ticket result payload, none⟩] }
  else p

/-- A RESET completes: it leaves the command list and is answered with its two counts (R184). -/
def completeReset (p : Part) : Part :=
  match p.cmd.resetting, p.cmd.list with
  | some r, it :: _ =>
    ((p.popCommand).onCmd fun c => { c with resetting := none }).placeReply it .ok [byte r.flushed, byte r.ended]
  | _, _ => p

/-- The last of the completion point has been sent (R184). -/
def resetOver (p : Part) : Bool :=
  match p.cmd.resetting with
  | none => false
  | some r =>
    !(r.entry.any fun i => p.tracker.queue.any fun e => e.id == i) &&
    !(r.record.any fun i => p.books.records.any fun b => b.id == i)

/-- The completion point and the counts of a RESET executed on `before`, whose link reset gave `after` (R183, R184). -/
def resetPoint (it : Item) (before after : Part) : ResetProgress where
  entry := after.tracker.queue.getLast?.map Entry.id
  record := after.books.endOrder.getLast?
  reserved := it.addressed
  flushed := before.tracker.queue.countP fun e => e.stage != .done
  ended := before.books.records.countP fun b => b.state != .ended

/-- A RESET is executed; with queue and table empty it completes in the same event (R183, R184). -/
def startReset (it : Item) (p : Part) : Part :=
  let q := p.linkReset.onCmd fun c => { c with resetting := some (resetPoint it p p.linkReset) }
  if q.resetOver then q.completeReset else q

/-- The head of the command list is executed (R178, R183). -/
def executeHead (p : Part) : Part :=
  match p.executable with
  | none => p
  | some it =>
    if it.ticket.code = 21 ∧ it.ticket.body.length = 1 then p.startReset it
    else
      let a := p.popCommand.answer it.ticket
      a.part.placeReply it a.result a.payload

end Part

end Sys2Proof.Machine
end

