-- ==== Sys2Proof/Machine/Link.lean ====
section
/-! DEFINITION. The Ticket Port: reception, classification, fence marks, the arbiter and the transmitter. -/

namespace Sys2Proof.Machine

/-- The classes of R174; a turned ticket is a pass-through item without a mark (R5). -/
inductive TicketClass where
  | turned | sheet | request | broadcast | passThrough
deriving DecidableEq, Repr

namespace Part

/-! ### Reception (R170, R171) -/

/-- A ticket is discarded: it gives its place up and sets the link error flag (R170). -/
def discard (p : Part) : Part := p.onPort fun x => { x with rx := .outside, linkError := true }

/-- A START: the ticket before it, if any, is cut off; with four complete tickets in the buffer the new one is refused;
otherwise it takes a place (R170, R171, log 10). -/
def startSymbol (p : Part) : Part :=
  p.onPort fun x =>
    let cut := match x.rx with
      | .inside _ => true
      | .outside | .refused => false
    if Config.rxPlaces ≤ x.rxBuf.length then { x with rx := .refused, linkError := true }
    else { x with rx := .inside [], linkError := x.linkError || cut }

/-- END of a ticket under reception: checked into the buffer, or discarded (R170). -/
def endTicket (bytes : List Byte) (p : Part) : Part :=
  match parseTicket bytes with
  | some t => p.onPort fun x => { x with rx := .outside, rxBuf := x.rxBuf ++ [⟨t, false⟩] }
  | none => p.discard

/-- A whole ticket arrives, with its START unless a START has just been taken or the ticket was refused (log 9). -/
def ticketArrives (bytes : List Byte) (close : TicketClose) (p : Part) : Part :=
  let q := match p.port.rx with
    | .inside [] => p
    | .refused => p
    | .outside | .inside (_ :: _) => p.startSymbol
  match q.port.rx, close with
  | .inside _, .endSymbol => q.endTicket bytes
  | _, _ => q.discard

/-- A symbol other than START (R170). -/
def symbolArrives (y : StraySymbol) (p : Part) : Part :=
  match p.port.rx, y with
  | .inside bytes, .endSymbol => p.endTicket bytes
  | .inside bytes, .dataByte b =>
    if Config.maxTicketBytes ≤ bytes.length then p.discard
    else p.onPort fun x => { x with rx := .inside (bytes ++ [b]) }
  | .inside _, .invalidSymbol => p.discard
  | .outside, _ => p.onPort fun x => { x with linkError := true }
  | .refused, .endSymbol => p.discard
  | .refused, _ => p.onPort fun x => { x with linkError := true }

/-! ### Classification (R173 to R177) -/

/-- Addressed to the unit (R173). -/
def addressedHere (t : Ticket) (p : Part) : Bool :=
  inRange 1 31 p.port.unitAddress && t.dest.toNat == p.port.unitAddress

/-- The class of the ticket at the head (R174, R176). -/
def classOf (it : RxItem) (p : Part) : TicketClass :=
  let t := it.ticket
  if it.turned then .turned
  else if t.kind = Config.kindSheet ∧ p.addressedHere t = true then .sheet
  else if t.kind = Config.kindRequest ∧ p.addressedHere t = true then .request
  else if t.kind = Config.kindRequest ∧ t.dest = 0 ∧ t.body ≠ [] ∧ honoured t.code = true then .broadcast
  else .passThrough

/-- Output list slots that the head of the receive buffer may take: one is left to the head of the command list where
that waits for one (R175). -/
def outFree (p : Part) : Nat :=
  Config.outSlots - p.slotsUsed - (if p.readyHead.any Item.addressed then 1 else 0)

/-- The needed space exists (R174). -/
def hasSpace (c : TicketClass) (p : Part) : Bool :=
  match c with
  | .turned | .passThrough => 1 ≤ p.outFree
  | .sheet => p.tracker.queue.length < Config.queueSize
  | .request => p.cmd.list.length < Config.cmdSlots
  | .broadcast => p.cmd.list.length < Config.cmdSlots && 1 ≤ p.outFree

def popRx (p : Part) : Part := p.onPort fun x => { x with rxBuf := x.rxBuf.tail }

/-- The mark of a ticket as it is placed: the most recent entry still in the queue, for a fenced one (R23, R177). -/
def markOf (t : Ticket) (p : Part) : Option Nat :=
  if t.fence then p.tracker.queue.getLast?.map Entry.id else none

/-- The marked entry's fence mark becomes present (R23). -/
def markEntry (m : Option Nat) (p : Part) : Part :=
  match m with
  | none => p
  | some i =>
    p.onTracker fun t =>
      { t with queue := t.queue.map fun e => if e.id = i then { e with fenceMark := true } else e }

def placeOut (t : Ticket) (p : Part) : Part :=
  (p.markEntry (p.markOf t)).onPort fun x => { x with outList := x.outList ++ [⟨t, p.markOf t⟩] }

def placeCommand (t : Ticket) (p : Part) : Part :=
  (p.markEntry (p.markOf t)).onCmd fun c => { c with list := c.list ++ [⟨t, p.markOf t⟩] }

/-- A turned ticket enters the output list without a mark (R5, R177). -/
def placeTurned (t : Ticket) (p : Part) : Part :=
  p.onPort fun x => { x with outList := x.outList ++ [⟨t, none⟩] }

/-- The head leaves the buffer for the lists of its class; a sheet is admitted instead, by `admitHead` (R174). -/
def classifyHead (p : Part) : Part :=
  match p.port.rxBuf with
  | [] => p
  | it :: _ =>
    match p.classOf it with
    | .turned => p.popRx.placeTurned it.ticket
    | .passThrough => p.popRx.placeOut it.ticket
    | .request => p.popRx.placeCommand it.ticket
    | .broadcast => (p.popRx.placeCommand it.ticket).placeOut it.ticket
    | .sheet => p

/-- A sheet ticket fails the sequence check: the halt cause, the expected sequence undefined, the ticket turned in
place, and placed where a slot is free (R5). -/
def turnHead (t : Ticket) (expected : Half) (p : Part) : Part :=
  let q := (p.raise (.sequenceGap expected (sheetFields t.body).sequence) none).setExpected none
  let r := t.turn p.port.unitAddress
  if 1 ≤ q.outFree then q.popRx.placeTurned r
  else q.onPort fun x => { x with rxBuf := ⟨r, true⟩ :: x.rxBuf.tail }

/-- The sheet ticket at the head meets the sequence check, where its body carries a sequence (R4, R5, R188). -/
def admitHead (p : Part) : Part :=
  match p.port.rxBuf with
  | [] => p
  | it :: _ =>
    let t := it.ticket
    if t.body.length < 2 then p.popRx.admitTicket t
    else
      match p.sequenceFails (sheetFields t.body).sequence with
      | none => p.popRx.admitTicket t
      | some x => p.turnHead t x

/-! ### The arbiter and the transmitter (R172, R181) -/

/-- The report of the head entry, when it is DONE (R22). -/
def headReport (p : Part) : Option Ticket :=
  match p.tracker.queue with
  | e :: _ => if e.stage = .done then some (e.report p.port.unitAddress) else none
  | [] => none

/-- The notice of the record first in the end order (R44). -/
def nextNotice (p : Part) : Option Ticket :=
  (p.books.endOrder.head?.bind p.recordById?).map (Book.doneTicket p.port.unitAddress)

/-- The head of the output list, if it is eligible. -/
def outHead (p : Part) : Option Ticket :=
  match p.port.outList with
  | it :: _ => if p.eligible it then some it.ticket else none
  | [] => none

/-- The arbiter's choice: the first of the four that has an item (R181). -/
def arbiter (p : Part) : Option Sending :=
  match p.sup.notice, p.headReport, p.nextNotice, p.outHead with
  | some n, _, _, _ => some ⟨.haltNotice, n.toTicket p.port.unitAddress⟩
  | none, some t, _, _ => some ⟨.report, t⟩
  | none, none, some t, _ => some ⟨.bookDone, t⟩
  | none, none, none, some t => some ⟨.output, t⟩
  | none, none, none, none => none

/-- A ticket boundary: with the downstream hold released the arbiter's choice begins; a notice begun is no longer one
that a later halt can replace (R158, R172). -/
def beginTransmit (p : Part) : Part :=
  if p.port.sending.isNone && !p.port.downHold then
    match p.arbiter with
    | none => p
    | some x =>
      let q := p.onPort fun y => { y with sending := some x }
      if x.owner = .haltNotice then q.onSup fun u => { u with notice := none } else q
  else p

/-- The head entry is freed (R22, R36). -/
def freeHead (p : Part) : Part :=
  match p.tracker.queue with
  | [] => p
  | e :: rest =>
    let q := p.onTracker fun t => { t with queue := rest }
    if e.isVoid then q
    else (q.updateBook e.book fun b => { b with inQueue := b.inQueue - 1 }).endTest e.book

/-- The record first in the end order is freed (R30, R44). -/
def freeRecord (p : Part) : Part :=
  p.onBooks fun t =>
    match t.endOrder with
    | [] => t
    | i :: rest =>
      { records := t.records.filter fun b => b.id != i
        endOrder := rest
        tailBook := if t.records.any (fun b => b.id == i && t.tailBook == some b.number) then none else t.tailBook }

def freeSlot (p : Part) : Part := p.onPort fun x => { x with outList := x.outList.tail }

/-- The END of the ticket being sent: its owner acts on it (R172). -/
def ticketLeaves (p : Part) : Part :=
  match p.port.sending with
  | none => p
  | some x =>
    let q := p.onPort fun y => { y with sending := none }
    match x.owner with
    | .haltNotice => q
    | .report => q.freeHead
    | .bookDone => q.freeRecord
    | .output => q.freeSlot

end Part

end Sys2Proof.Machine
end

