-- ==== Sys2Proof/Machine/Due.lean ====
section
/-! DEFINITION. Due steps: the rows of the table that the part takes by itself once their condition holds, when each is
due, and the settling of the part before anything comes from outside (log 1, log 2). -/

namespace Sys2Proof.Machine

/-- The steps the part takes by itself. -/
inductive Due where
  | execute | resetCompletes | classify | admitSheet
  | jam (s : Segment)
  | ramStall | ramStuck
  | dwell (i : Idx4)
  | plungeWindow (i : Idx4)
  | drillStuck (i : Idx4)
  | closerWindow | dumpWindow
deriving DecidableEq, Repr

namespace Part

/-- The class of the head of the receive buffer, when its needed space exists (R174). -/
def classable (p : Part) : Option TicketClass :=
  match p.port.rxBuf with
  | it :: _ => if p.hasSpace (p.classOf it) then some (p.classOf it) else none
  | [] => none

/-- A segment's slot is passed by its count; it cannot be in HALT (R130, R132, log 14). -/
def slotPassed (s : Segment) (p : Part) : Bool :=
  match p.slot s with
  | some (d, _) => p.sup.line != .halt && passed d.count (p.countOf d.kind)
  | none => false

/-- A spindle's window has run out in a state (R94). -/
def spindlePassed (st : SpindleState) (i : Idx4) (p : Part) : Bool :=
  (p.spindle i).state == st && p.msPassed (p.spindle i).deadline

/-- Whether a step is due. -/
def isDue (d : Due) (p : Part) : Bool :=
  match d with
  | .execute => p.executable.isSome
  | .resetCompletes => p.resetOver
  | .classify => p.classable.any fun c => c != .sheet
  | .admitSheet => p.classable == some .sheet
  | .jam s => p.slotPassed s
  | .ramStall => p.punch.state == .strike && p.sup.line != .halt && p.msPassed p.punch.deadline
  | .ramStuck => p.punch.state == .ramReturn && p.msPassed p.punch.deadline
  | .dwell i => p.spindlePassed .dwell i
  | .plungeWindow i => p.spindlePassed .plunge i
  | .drillStuck i => p.spindlePassed .retract i
  | .closerWindow => bindState p.closer.state && p.msPassed p.closer.deadline
  | .dumpWindow => p.closer.state == .dump && p.msPassed p.closer.deadline

/-! ### The steps -/

/-- JAM names the segment and the sequence in its slot; the book is that entry's (R132, R156). -/
def jammed (s : Segment) (p : Part) : Part :=
  match p.slot s with
  | some (_, e) => p.raise (.jam s e.sequence) (if e.isVoid then none else some e.book)
  | none => p

/-- The ram has stalled (R74). -/
def ramStalls (p : Part) : Part := p.raise .ramStall p.punchConcerned

/-- The ram has stuck: FAULT, and the halt cause (R76). -/
def ramSticks (p : Part) : Part := p.faultPunch.raise .ramStuck p.punchConcerned

/-- A spindle enters FAULT; with its mark dropped it is no longer one of the faulted list (R87, R93). -/
def faultSpindle (i : Idx4) (p : Part) : Part :=
  (p.onSpindle i Spindle.toFault).onDrill fun d => { d with faulted := d.faulted.filter (· != i) }

/-- The spindle has stuck: FAULT, the halt cause, and the end test of the cycle (R93). -/
def spindleSticks (i : Idx4) (p : Part) : Part :=
  ((p.faultSpindle i).raise (.drillStuck i) p.drillConcerned).afterSpindle

/-- What a due step does. -/
def takeDue (d : Due) (p : Part) : Part :=
  match d with
  | .execute => p.executeHead
  | .resetCompletes => p.completeReset
  | .classify => p.classifyHead
  | .admitSheet => p.admitHead
  | .jam s => p.jammed s
  | .ramStall => p.ramStalls
  | .ramStuck => p.ramSticks
  | .dwell i => p.dwellEnds i
  | .plungeWindow i => p.plungeFails i
  | .drillStuck i => p.spindleSticks i
  | .closerWindow => p.closerFails .window
  | .dumpWindow => p.closerFails .window

/-! ### Settling -/

/-- Every due step, in the order the part takes them where the sender does not choose (log 2). -/
def dueOrder : List Due :=
  [.execute, .resetCompletes, .classify, .admitSheet, .jam .leadIn, .jam .mid, .jam .runOut, .jam .drop, .ramStall, .ramStuck,
    .dwell .i1, .dwell .i2, .dwell .i3, .dwell .i4, .plungeWindow .i1, .plungeWindow .i2, .plungeWindow .i3,
    .plungeWindow .i4, .drillStuck .i1, .drillStuck .i2, .drillStuck .i3, .drillStuck .i4, .closerWindow, .dumpWindow]

def nextDue (p : Part) : Option Due := dueOrder.find? fun d => p.isDue d

/-- Nothing is due. -/
def Quiet (p : Part) : Prop := p.nextDue = none

/-- Take due steps until nothing is due, at most `n` of them. -/
def settleFor : Nat → Part → Part
  | 0, p => p
  | n + 1, p =>
    match p.nextDue with
    | none => p
    | some d => settleFor n (p.takeDue d)

/-- Enough for every ticket and request the part can hold and for every window (log 1). -/
def settleBound (p : Part) : Nat := 4 * (p.port.rxBuf.length + p.cmd.list.length) + 32

/-- The part with every due step taken. -/
def settle (p : Part) : Part := settleFor p.settleBound p

end Part

/-! ### The two kinds of command -/

/-- An event from outside falls on a settled part (log 1). -/
def external (f : Part → Part) (s : State) : Host.Outcome State Fault Refusal :=
  .next { s with toPart := f s.toPart.settle }

/-- A step of the part's own is taken if it is due, and is nothing otherwise (log 1). -/
def internal (d : Due) (s : State) : Host.Outcome State Fault Refusal :=
  .next { s with toPart := if s.toPart.isDue d then s.toPart.takeDue d else s.toPart }

/-- The execution of the request at the head of the command list, if it is due and its code is one of a row's. -/
def request (codes : Nat → Bool) (s : State) : Host.Outcome State Fault Refusal :=
  .next { s with toPart :=
    if s.toPart.executable.any (fun it => codes it.ticket.code) then s.toPart.executeHead else s.toPart }

end Sys2Proof.Machine
end

