-- ==== Sys2Proof/Machine/ClockCommands.lean ====
section
/-! DEFINITION. The rows of the timebase. -/

namespace Sys2Proof.Machine

/-- R126. -/
def execReferenceTick (good : Bool) (s : State) : Host.Outcome State Fault Refusal := 
  external (fun p => if good then p.goodTick else p.badTick) s

/-- R126. -/
def execReferenceGap (s : State) : Host.Outcome State Fault Refusal := external Part.badTick s

/-- R129. -/
def execEncoderEdge (transition : Transition) (s : State) : Host.Outcome State Fault Refusal := 
  external (Part.encoderEdge transition) s

/-- R132. -/
def execJam (segment : Segment) (s : State) : Host.Outcome State Fault Refusal := internal (.jam segment) s

end Sys2Proof.Machine
end

