-- ==== Sys2Proof/Machine/LineCommands.lean ====
section
/-! DEFINITION. The rows of the sheet sensors, the guards, the supplies and the resets. -/

namespace Sys2Proof.Machine

/-- R10. -/
def execEntrySensor (double : Bool) (s : State) : Host.Outcome State Fault Refusal := external (Part.entrySensor double) s

/-- R11. -/
def execPunchRegister (s : State) : Host.Outcome State Fault Refusal := external Part.punchRegister s

/-- R12. -/
def execDrillRegister (s : State) : Host.Outcome State Fault Refusal := external Part.drillRegister s

/-- R13. -/
def execExitSensor (s : State) : Host.Outcome State Fault Refusal := external Part.exitSensor s

/-- R14. -/
def execLanding (sensor : LandingSensor) (s : State) : Host.Outcome State Fault Refusal := external (Part.sheetLands sensor) s

/-- R144. -/
def execGuardOpen (station : Station) (s : State) : Host.Outcome State Fault Refusal := external (Part.openGuardOf station) s

/-- R144. -/
def execGuardClose (station : Station) (s : State) : Host.Outcome State Fault Refusal := external (Part.closeGuardOf station) s

/-- R146. -/
def execSupplyLow (s : State) : Host.Outcome State Fault Refusal := external Part.supplyFalls s

/-- R146. -/
def execSupplyLowInactive (s : State) : Host.Outcome State Fault Refusal := external (Part.onSup fun u => { u with supplyLow := false }) s

/-- R146. -/
def execDriverShutdown (s : State) : Host.Outcome State Fault Refusal := external Part.driverShuts s

/-- R146. -/
def execDriverShutdownInactive (s : State) : Host.Outcome State Fault Refusal := 
  external (Part.onSup fun u => { u with driverShutdown := false }) s

/-- R147. -/
def execDriverHot (s : State) : Host.Outcome State Fault Refusal := external Part.driverHeats s

/-- R147. -/
def execDriverHotInactive (s : State) : Host.Outcome State Fault Refusal := external (Part.onSup fun u => { u with driverHot := false }) s

/-- R161. -/
def execExternalStop (s : State) : Host.Outcome State Fault Refusal := external Part.stopPressed s

/-- R161. -/
def execStopInputInactive (s : State) : Host.Outcome State Fault Refusal := external (Part.onSup fun u => { u with stopInput := false }) s

/-- R186; the power-up flag is set (R147). -/
def execPowerOn (pins : BitVec 5) (s : State) : Host.Outcome State Fault Refusal := external (Part.resetTo pins true) s

/-- R186; the power-up flag is kept (R147). -/
def execHardReset (pins : BitVec 5) (s : State) : Host.Outcome State Fault Refusal := 
  external (fun p => p.resetTo pins p.sup.powerUpFlag) s

end Sys2Proof.Machine
end

