-- ==== Sys2Proof/Machine/LinkCommands.lean ====
section
/-! DEFINITION. The rows of the ticket link. -/

namespace Sys2Proof.Machine

/-- R170. -/
def execTicketReceived (bytes : List Byte) (close : TicketClose) (s : State) : Host.Outcome State Fault Refusal := external (Part.ticketArrives bytes close) s

/-- R170. -/
def execStraySymbol (symbol : StraySymbol) (s : State) : Host.Outcome State Fault Refusal := external (Part.symbolArrives symbol) s

/-- R171. -/
def execStartReceived (s : State) : Host.Outcome State Fault Refusal := external Part.startSymbol s

/-- R174. -/
def execTicketClassified (s : State) : Host.Outcome State Fault Refusal := internal .classify s

/-- R4. -/
def execSheetAdmitted (s : State) : Host.Outcome State Fault Refusal := internal .admitSheet s

/-- R172. -/
def execDownstreamHold (asserted : Bool) (s : State) : Host.Outcome State Fault Refusal := 
  external (Part.onPort fun x => { x with downHold := asserted }) s

/-- R181. -/
def execTransmitBegin (s : State) : Host.Outcome State Fault Refusal := external Part.beginTransmit s

/-- R172. -/
def execTicketSent (s : State) : Host.Outcome State Fault Refusal := external Part.ticketLeaves s

end Sys2Proof.Machine
end

