-- ==== Sys2Proof/Machine/RequestCommands.lean ====
section
/-! DEFINITION. The request rows: each is the execution of the request at the head of the command list, when that request
has the row's code (R178, R189, log 5); what the request does is its `Part.answer…`. -/

namespace Sys2Proof.Machine

/-- R151. -/
def execReadStatus (s : State) : Host.Outcome State Fault Refusal := request (· == 1) s

/-- R24. -/
def execReadQueue (s : State) : Host.Outcome State Fault Refusal := request (· == 2) s

/-- R48. -/
def execReadBook (s : State) : Host.Outcome State Fault Refusal := request (· == 3) s

/-- R58. -/
def execReadPattern (s : State) : Host.Outcome State Fault Refusal := request (· == 4) s

/-- R99. -/
def execReadDrill (s : State) : Host.Outcome State Fault Refusal := request (· == 5) s

/-- R121. -/
def execReadCloser (s : State) : Host.Outcome State Fault Refusal := request (· == 6) s

/-- R166. -/
def execReadHalt (s : State) : Host.Outcome State Fault Refusal := request (· == 7) s

/-- R135. -/
def execRun (s : State) : Host.Outcome State Fault Refusal := request (· == 16) s

/-- R136. -/
def execStop (s : State) : Host.Outcome State Fault Refusal := request (· == 17) s

/-- R160. -/
def execHalt (s : State) : Host.Outcome State Fault Refusal := request (· == 18) s

/-- R163. -/
def execResume (s : State) : Host.Outcome State Fault Refusal := request (· == 19) s

/-- R167. -/
def execClearFaults (s : State) : Host.Outcome State Fault Refusal := request (· == 20) s

/-- R183. -/
def execReset (s : State) : Host.Outcome State Fault Refusal := request (· == 21) s

/-- R56. -/
def execLoadPattern (s : State) : Host.Outcome State Fault Refusal := request (· == 32) s

/-- R57. -/
def execClearPattern (s : State) : Host.Outcome State Fault Refusal := request (· == 33) s

/-- R82. -/
def execSetPunch (s : State) : Host.Outcome State Fault Refusal := request (· == 34) s

/-- R97. -/
def execSetProfile (s : State) : Host.Outcome State Fault Refusal := request (· == 35) s

/-- R98. -/
def execMapSpindles (s : State) : Host.Outcome State Fault Refusal := request (· == 36) s

/-- R120. -/
def execSetCloser (s : State) : Host.Outcome State Fault Refusal := request (· == 37) s

/-- R124. -/
def execSetTimebase (s : State) : Host.Outcome State Fault Refusal := request (· == 38) s

/-- R125. -/
def execStartTimebase (s : State) : Host.Outcome State Fault Refusal := request (· == 39) s

/-- R141. -/
def execStations (s : State) : Host.Outcome State Fault Refusal := request (· == 40) s

/-- R143. -/
def execService (s : State) : Host.Outcome State Fault Refusal := request (· == 41) s

/-- R149. -/
def execSetLine (s : State) : Host.Outcome State Fault Refusal := request (· == 42) s

/-- R45. -/
def execAmendBook (s : State) : Host.Outcome State Fault Refusal := request (· == 48) s

/-- R47. -/
def execCancelBook (s : State) : Host.Outcome State Fault Refusal := request (· == 49) s

/-- R179. -/
def execUnknownRequest (s : State) : Host.Outcome State Fault Refusal := request (fun c => !Part.knownCode c) s

/-- R184. -/
def execResetCompletes (s : State) : Host.Outcome State Fault Refusal := internal .resetCompletes s

end Sys2Proof.Machine
end

