-- ==== Sys2Proof/Machine/StationCommands.lean ====
section
/-! DEFINITION. The rows of the punch, the drill and the closer. -/

namespace Sys2Proof.Machine

/-- R72. -/
def execLatchCheckReport (notOk : List (Nat × CoilFault)) (s : State) : Host.Outcome State Fault Refusal := 
  external (Part.latchCheck notOk) s

/-- R77. -/
def execOverCurrent (coil : Nat) (s : State) : Host.Outcome State Fault Refusal := external (Part.overCurrent coil) s

/-- R74. -/
def execRamDown (s : State) : Host.Outcome State Fault Refusal := external Part.ramReachesBottom s

/-- R75. -/
def execRamUp (s : State) : Host.Outcome State Fault Refusal := external Part.ramReachesTop s

/-- R75. -/
def execRamUpLevelClears (s : State) : Host.Outcome State Fault Refusal := 
  external (Part.onPunch fun x => { x with ramUpLevel := false }) s

/-- R74. -/
def execRamStall (s : State) : Host.Outcome State Fault Refusal := internal .ramStall s

/-- R76. -/
def execRamStuck (s : State) : Host.Outcome State Fault Refusal := internal .ramStuck s

/-- R66. -/
def execDieIdentityChange (lines : BitVec 3) (s : State) : Host.Outcome State Fault Refusal := 
  external (Part.onPunch fun x => { x with dieLines := lines }) s

/-- R90. -/
def execSpindleDown (spindle : Idx4) (s : State) : Host.Outcome State Fault Refusal := external (Part.spindleReachesBottom spindle) s

/-- R90. -/
def execDwellRunsOut (spindle : Idx4) (s : State) : Host.Outcome State Fault Refusal := internal (.dwell spindle) s

/-- R91. -/
def execPlungeWindowRunsOut (spindle : Idx4) (s : State) : Host.Outcome State Fault Refusal := 
  internal (.plungeWindow spindle) s

/-- R92. -/
def execSpindleUp (spindle : Idx4) (s : State) : Host.Outcome State Fault Refusal := external (Part.spindleReachesTop spindle) s

/-- R93. -/
def execDrillStuck (spindle : Idx4) (s : State) : Host.Outcome State Fault Refusal := internal (.drillStuck spindle) s

/-- R84. -/
def execSpindleLevelClears (spindle : Idx4) (sensor : SpindleSensor) (s : State) : Host.Outcome State Fault Refusal := 
  external (Part.onSpindle spindle fun x => match sensor with
    | .down => { x with downLevel := false }
    | .up => { x with upLevel := false }) s

/-- R107. -/
def execClampDone (s : State) : Host.Outcome State Fault Refusal := external Part.clampDone s

/-- R107. -/
def execHangerIn (s : State) : Host.Outcome State Fault Refusal := external Part.hangerIn s

/-- R107. -/
def execHangerEmpty (s : State) : Host.Outcome State Fault Refusal := external Part.hangerRunsEmpty s

/-- R101. -/
def execHangerEmptyClears (s : State) : Host.Outcome State Fault Refusal := 
  external (Part.onCloser fun c => { c with hangerEmpty := false }) s

/-- R108. -/
def execLoopPulse (s : State) : Host.Outcome State Fault Refusal := external Part.loopPulse s

/-- R109. -/
def execCutDone (s : State) : Host.Outcome State Fault Refusal := external Part.cutDone s

/-- R109. -/
def execCloseDone (s : State) : Host.Outcome State Fault Refusal := external Part.closeDone s

/-- R109. -/
def execEjectDone (s : State) : Host.Outcome State Fault Refusal := external Part.ejectDone s

/-- R110. -/
def execDumpDone (s : State) : Host.Outcome State Fault Refusal := external Part.dumpDone s

/-- R114. -/
def execCloserWindowRunsOut (s : State) : Host.Outcome State Fault Refusal := internal .closerWindow s

/-- R115. -/
def execDumpWindowRunsOut (s : State) : Host.Outcome State Fault Refusal := internal .dumpWindow s

end Sys2Proof.Machine
end

