-- ==== Sys2Proof/Machine/Dispatch.lean ====
section
/-! DEFINITION. One arm per command, each a direct call of its meaning. -/

namespace Sys2Proof.Machine

def exec (i : Instr) (s : State) : Host.Outcome State Fault Refusal :=
  match i with
  | .readStatus => Sys2Proof.Machine.execReadStatus s
  | .readQueue => Sys2Proof.Machine.execReadQueue s
  | .readBook => Sys2Proof.Machine.execReadBook s
  | .readPattern => Sys2Proof.Machine.execReadPattern s
  | .readDrill => Sys2Proof.Machine.execReadDrill s
  | .readCloser => Sys2Proof.Machine.execReadCloser s
  | .readHalt => Sys2Proof.Machine.execReadHalt s
  | .run => Sys2Proof.Machine.execRun s
  | .stop => Sys2Proof.Machine.execStop s
  | .halt => Sys2Proof.Machine.execHalt s
  | .resume => Sys2Proof.Machine.execResume s
  | .clearFaults => Sys2Proof.Machine.execClearFaults s
  | .reset => Sys2Proof.Machine.execReset s
  | .loadPattern => Sys2Proof.Machine.execLoadPattern s
  | .clearPattern => Sys2Proof.Machine.execClearPattern s
  | .setPunch => Sys2Proof.Machine.execSetPunch s
  | .setProfile => Sys2Proof.Machine.execSetProfile s
  | .mapSpindles => Sys2Proof.Machine.execMapSpindles s
  | .setCloser => Sys2Proof.Machine.execSetCloser s
  | .setTimebase => Sys2Proof.Machine.execSetTimebase s
  | .startTimebase => Sys2Proof.Machine.execStartTimebase s
  | .stations => Sys2Proof.Machine.execStations s
  | .service => Sys2Proof.Machine.execService s
  | .setLine => Sys2Proof.Machine.execSetLine s
  | .amendBook => Sys2Proof.Machine.execAmendBook s
  | .cancelBook => Sys2Proof.Machine.execCancelBook s
  | .unknownRequest => Sys2Proof.Machine.execUnknownRequest s
  | .resetCompletes => Sys2Proof.Machine.execResetCompletes s
  | .ticketReceived bytes close => Sys2Proof.Machine.execTicketReceived bytes close s
  | .straySymbol symbol => Sys2Proof.Machine.execStraySymbol symbol s
  | .ticketClassified => Sys2Proof.Machine.execTicketClassified s
  | .sheetAdmitted => Sys2Proof.Machine.execSheetAdmitted s
  | .downstreamHold asserted => Sys2Proof.Machine.execDownstreamHold asserted s
  | .transmitBegin => Sys2Proof.Machine.execTransmitBegin s
  | .ticketSent => Sys2Proof.Machine.execTicketSent s
  | .entrySensor double => Sys2Proof.Machine.execEntrySensor double s
  | .punchRegister => Sys2Proof.Machine.execPunchRegister s
  | .drillRegister => Sys2Proof.Machine.execDrillRegister s
  | .exitSensor => Sys2Proof.Machine.execExitSensor s
  | .landing sensor => Sys2Proof.Machine.execLanding sensor s
  | .latchCheckReport notOk => Sys2Proof.Machine.execLatchCheckReport notOk s
  | .overCurrent coil => Sys2Proof.Machine.execOverCurrent coil s
  | .ramDown => Sys2Proof.Machine.execRamDown s
  | .ramUp => Sys2Proof.Machine.execRamUp s
  | .ramStall => Sys2Proof.Machine.execRamStall s
  | .ramStuck => Sys2Proof.Machine.execRamStuck s
  | .spindleDown spindle => Sys2Proof.Machine.execSpindleDown spindle s
  | .dwellRunsOut spindle => Sys2Proof.Machine.execDwellRunsOut spindle s
  | .plungeWindowRunsOut spindle => Sys2Proof.Machine.execPlungeWindowRunsOut spindle s
  | .spindleUp spindle => Sys2Proof.Machine.execSpindleUp spindle s
  | .drillStuck spindle => Sys2Proof.Machine.execDrillStuck spindle s
  | .clampDone => Sys2Proof.Machine.execClampDone s
  | .hangerIn => Sys2Proof.Machine.execHangerIn s
  | .hangerEmpty => Sys2Proof.Machine.execHangerEmpty s
  | .loopPulse => Sys2Proof.Machine.execLoopPulse s
  | .cutDone => Sys2Proof.Machine.execCutDone s
  | .closeDone => Sys2Proof.Machine.execCloseDone s
  | .ejectDone => Sys2Proof.Machine.execEjectDone s
  | .dumpDone => Sys2Proof.Machine.execDumpDone s
  | .closerWindowRunsOut => Sys2Proof.Machine.execCloserWindowRunsOut s
  | .dumpWindowRunsOut => Sys2Proof.Machine.execDumpWindowRunsOut s
  | .referenceTick good => Sys2Proof.Machine.execReferenceTick good s
  | .referenceGap => Sys2Proof.Machine.execReferenceGap s
  | .encoderEdge transition => Sys2Proof.Machine.execEncoderEdge transition s
  | .jam segment => Sys2Proof.Machine.execJam segment s
  | .guardOpen station => Sys2Proof.Machine.execGuardOpen station s
  | .guardClose station => Sys2Proof.Machine.execGuardClose station s
  | .supplyLow => Sys2Proof.Machine.execSupplyLow s
  | .driverShutdown => Sys2Proof.Machine.execDriverShutdown s
  | .driverHot => Sys2Proof.Machine.execDriverHot s
  | .externalStop => Sys2Proof.Machine.execExternalStop s
  | .powerOn pins => Sys2Proof.Machine.execPowerOn pins s
  | .hardReset pins => Sys2Proof.Machine.execHardReset pins s
  | .dieIdentityChange lines => Sys2Proof.Machine.execDieIdentityChange lines s
  | .supplyLowInactive => Sys2Proof.Machine.execSupplyLowInactive s
  | .driverShutdownInactive => Sys2Proof.Machine.execDriverShutdownInactive s
  | .driverHotInactive => Sys2Proof.Machine.execDriverHotInactive s
  | .stopInputInactive => Sys2Proof.Machine.execStopInputInactive s
  | .hangerEmptyClears => Sys2Proof.Machine.execHangerEmptyClears s
  | .ramUpLevelClears => Sys2Proof.Machine.execRamUpLevelClears s
  | .spindleLevelClears spindle sensor => Sys2Proof.Machine.execSpindleLevelClears spindle sensor s
  | .startReceived => Sys2Proof.Machine.execStartReceived s

end Sys2Proof.Machine
end

