-- ==== Sys2Proof/Safety.lean ====
section
/-! DEFINITION. What the claims call a sound part: the properties of a part that its steps keep. -/

namespace Sys2Proof.Machine

/-- The state with another part in it; the commands that wait stay as they are. -/
abbrev State.withPart (s : State) (q : Part) : State := { s with toPart := q }

end Sys2Proof.Machine

namespace Sys2Proof.Machine.Part

/-- Entry 0 holds the blank pattern (R52). -/
def BlankKept (p : Part) : Prop := p.pattern? 0 = some .blank

/-- The line runs, or holds, only while the timebase is VALID (R138). -/
def RunsValid (p : Part) : Prop := p.sup.line = .run ∨ p.sup.line = .hold → p.timebase.state = .valid

/-- No structure holds more than its places (R1, R28, R171, R175, R178). A RESET in progress stands at the head of the
command list, and holds a slot exactly when it is addressed (R183). -/
def WithinCapacity (p : Part) : Prop :=
  p.tracker.queue.length ≤ 24 ∧ p.books.records.length ≤ 12 ∧ p.placesOccupied ≤ 4 ∧ p.slotsUsed ≤ 8 ∧
  p.cmd.list.length ≤ 4 ∧
  ∀ r ∈ p.cmd.resetting, ∃ it ∈ p.cmd.list.head?, r.reserved = it.addressed

/-- At most one entry stands at the punch, at the drill and at the gate (R3). -/
def OneAtEach (p : Part) : Prop :=
  ∀ st ∈ [Stage.atPunch, Stage.atDrill, Stage.atGate], p.tracker.queue.countP (fun e => e.stage == st) ≤ 1

/-- No entry's stage is further along than the stage of the entry ahead of it (R1), and in HALT every entry is WAITING
or DONE (R25). -/
def StagesInOrder (p : Part) : Prop :=
  p.tracker.queue.Pairwise (fun a b => b.stage.code ≤ a.stage.code) ∧
  (p.sup.line = .halt → ∀ e ∈ p.tracker.queue, e.stage.inTransit = false)

/-- An entry counts for a pattern: neither VOID nor DONE, and naming it (R54). -/
def Entry.uses (n : Nat) (e : Entry) : Bool := !e.isVoid && e.stage != .done && e.pattern == n

/-- Every use count is the number of entries that count for its pattern (R54); the entry whose report is being sent is
DONE (R22). -/
def UseCountsExact (p : Part) : Prop :=
  (∀ n < 64, p.useCount n = p.tracker.queue.countP (Entry.uses n)) ∧
  (p.port.sending.any (fun x => x.owner == .report) = true →
    p.tracker.queue.head?.any (fun e => e.stage == .done) = true)

/-- The non-VOID entries of a book that are in the queue (R29). -/
def inQueueOf (n : Nat) (p : Part) : Nat := p.tracker.queue.countP fun e => !e.isVoid && e.book == n

/-- The non-VOID entries of a book whose sheets are still to come (R36). -/
def openOf (n : Nat) (p : Part) : Nat :=
  p.tracker.queue.countP fun e => !e.isVoid && e.stage != .done && e.book == n

/-- The states of a book that may hold a pocket in a state (R37). -/
def holders : PocketState → List BookState
  | .free => []
  | .gathering => [.opened, .filled]
  | .full => [.ready]
  | .dumpWait => [.spoiled]
  | .binding => [.closing, .spoiled]
  | .dumping => [.spoiled]

/-- Book numbers are unique (R28). A pocket that is not FREE is held by just one record, a record holds one pocket at
most, and a FREE pocket is held by none; the holder is in one of the states that R37 gives. The request list holds the
pockets in FULL and DUMP_WAIT (R39). -/
def PocketsHeld (p : Part) : Prop :=
  (p.books.records.map Book.number).Nodup ∧
  (∀ k, (p.pocket k).state = .free ↔ (p.pocket k).book = none) ∧
  (∀ k n, (p.pocket k).book = some n → ∃ b ∈ p.books.records, b.number = n ∧ b.state ∈ holders (p.pocket k).state) ∧
  (∀ b ∈ p.books.records, ∀ k, b.pocket = some k ↔ (p.pocket k).book = some b.number) ∧
  p.closer.requests.Nodup ∧
  (∀ k, k ∈ p.closer.requests ↔ (p.pocket k).state = .full ∨ (p.pocket k).state = .dumpWait)

/-- What a record's counts and fields say of its state (R29, R31, R36). -/
def RecordSound (p : Part) (b : Book) : Prop :=
  b.gathered + b.diverted + b.lost + p.openOf b.number ≤ b.admitted ∧ b.admitted ≤ b.expected ∧ b.expected ≤ 60 ∧
  b.inQueue = p.inQueueOf b.number ∧
  (b.state = .opened → b.admitted < b.expected) ∧
  (b.state ∈ [BookState.filled, .ready, .closing, .ended] → b.admitted = b.expected) ∧
  (b.state ∈ [BookState.ready, .closing] → b.gathered = b.expected) ∧
  (b.state = .ended → p.openOf b.number = 0) ∧
  (b.outcome.isSome ↔ b.state = .ended) ∧
  (b.spoilReason = none ↔ b.state ∈ [BookState.opened, .filled, .ready, .closing] ∨ b.outcome = some .bound)

/-- Every record is sound, and every non-VOID entry has one. The end order names the ENDED records, each once (R44); the
record whose notice is being sent has no entry left in the queue. The closer works on the pocket and the book that its
state says (R101, R114). -/
def BooksSound (p : Part) : Prop :=
  (∀ b ∈ p.books.records, p.RecordSound b) ∧
  (∀ e ∈ p.tracker.queue, e.isVoid = false → (p.book? e.book).isSome) ∧
  (p.books.records.map Book.id).Nodup ∧ (∀ b ∈ p.books.records, b.id < p.tracker.nextId) ∧
  p.books.endOrder.Nodup ∧ (∀ i ∈ p.books.endOrder, ∃ b ∈ p.books.records, b.id = i ∧ b.state = .ended) ∧
  (∀ b ∈ p.books.records, b.state = .ended → b.id ∈ p.books.endOrder) ∧
  (p.port.sending.any (fun x => x.owner == .bookDone) = true →
    ∃ i b, p.books.endOrder.head? = some i ∧ p.recordById? i = some b ∧ b.inQueue = 0) ∧
  (p.closer.state = .idle → p.closer.current = none) ∧
  (p.closer.state ≠ .idle → ∃ cur b, p.closer.current = some cur ∧ (p.pocket cur.pocket).book = some cur.book ∧
    p.book? cur.book = some b ∧
    (bindState p.closer.state = true → (p.pocket cur.pocket).state = .binding ∧ b.state = .closing) ∧
    (p.closer.state = .dump → (p.pocket cur.pocket).state = .dumping) ∧
    (p.closer.state = .fault → (p.pocket cur.pocket).state ∈ [PocketState.binding, .dumping] ∧ b.state = .spoiled))

end Sys2Proof.Machine.Part
end

