-- ==== Sys2Proof/Certificates/Slice0/Obligations.lean ====
section
/-! DEFINITION. The statements for the provers. A statement about a command from outside speaks of the part `p` that the
command finds, which is the part with its due steps taken (log 1); a statement about a request speaks of the item `it`
that stands executable at the head of the command list (R178). An equation of parts is a whole frame: what it does not
change stays. -/

open Sys2Proof Sys2Proof.Machine

/-! ### Steps -/

/-- A step runs the command at the front of the queue on the rest; an empty queue idles (the idling is log 3's); and
every command answers a next state and leaves the waiting commands alone. -/
def Obligations.StepRunsFrontCommand : Prop :=
  (∀ (c : Instr) (rest : List Instr) (s : State),
    step { s with pending := c :: rest } = exec c { s with pending := rest }) ∧
  (∀ s : State, step { s with pending := [] } = .next { s with pending := [] }) ∧
  ∀ (c : Instr) (s : State), ∃ q : Part, exec c s = .next (s.withPart q)

/-! ### Values at reset -/

/-- The reset values that the spec states, block by block, in State.reset: what each block holds, and the outputs that
follow. The input levels carry none (log 6), and nor do the address pins (log 7). -/
def Obligations.ResetValues : Prop :=
  let p := State.reset.toPart
  State.reset.pending = [] ∧ p.tracker.queue = [] ∧ p.tracker.expected = none ∧ p.tracker.gate = .reject ∧
  p.books.records = [] ∧ p.books.endOrder = [] ∧ p.books.tailBook = none ∧
  (∀ n < 64, p.pattern? n = (if n = 0 then some ⟨.any, [], false, []⟩ else none) ∧ p.useCount n = 0) ∧
  (∀ c, 1 ≤ c → c ≤ 49 → p.coilHealth c = .ok) ∧ p.punch.state = .idle ∧
  p.punch.engaged = [] ∧ p.punch.held = false ∧ p.punch.pendingSetup = false ∧
  p.punch.ramWindow = 250 ∧ p.punch.returnWindow = 250 ∧ p.latchDrives = [] ∧ p.ramCommandDown = false ∧
  (∀ i, (p.spindle i).state = .idle ∧ (p.spindle i).copy = none ∧ (p.spindle i).passes = 0 ∧
    (p.spindle i).timedOut = false ∧ p.feedCommandDown i = false ∧
    p.drill.profiles.get i = ⟨.oneShot, 2, 400, 50, 400⟩ ∧ p.drill.map.get i = i) ∧
  p.drill.cycle = [] ∧ p.drill.faulted = [] ∧ p.drill.held = false ∧ p.drill.pendingSetup = false ∧
  p.closer.state = .idle ∧ p.closer.current = none ∧ p.closer.active = none ∧ p.closer.staged = none ∧
  p.closer.pocketA = ⟨.free, none⟩ ∧ p.closer.pocketB = ⟨.free, none⟩ ∧
  p.closer.requests = [] ∧ p.closer.wireClass = 0 ∧ p.closer.windows = ⟨300, 500, 80, 200, 400, 500, 1500⟩ ∧
  p.closer.faultRecord = none ∧ p.timebase = ⟨⟨8, .rising, 600, 500, 500, 400⟩, .unset, 0, 0, 0⟩ ∧
  p.sup.line = .idle ∧ p.sup.pocketWait = false ∧ p.stations.activation = ⟨false, false, false⟩ ∧
  p.stations.outOfService = ⟨false, false, false⟩ ∧ p.effectiveSet = ⟨false, false, false⟩ ∧
  p.stations.lock = false ∧ p.sup.feedMargin = 2 ∧
  p.sup.enables = ⟨true, true, false, false, false⟩ ∧ p.sup.powerUpFlag = true ∧ p.sup.driverHotFlag = p.sup.driverHot ∧
  p.sup.haltRecord = none ∧ p.sup.secondary = none ∧ p.sup.more = false ∧ p.sup.notice = none ∧
  p.port.rxBuf = [] ∧ p.port.outList = [] ∧ p.cmd.list = [] ∧ p.cmd.resetting = none ∧
  p.port.linkError = false ∧ p.holdOut = false ∧
  p.transportRun = false ∧ p.feedHold = true ∧ p.faultLine = false ∧ p.signal = .off

/-- POWER_ON and HARD_RESET complete: every block at its reset value but the input levels, which the equation leaves
open (log 6); the unit address sampled from the pins, the power-up flag set or kept, the driver-hot flag as its input.
-/
def Obligations.PowerOnAndHardResetComplete : Prop :=
  ∀ (s : State) (pins : BitVec 5), ∃ q r : Part,
    exec (.powerOn pins) s = .next (s.withPart q) ∧ exec (.hardReset pins) s = .next (s.withPart r) ∧
    q.sup.powerUpFlag = true ∧ r.sup.powerUpFlag = s.toPart.settle.sup.powerUpFlag ∧
    ∀ t ∈ [q, r],
      t = { Part.reset with
        port := { Part.reset.port with unitAddress := pins.toNat, downHold := t.port.downHold }
        punch := { Part.reset.punch with dieLines := t.punch.dieLines, ramUpLevel := t.punch.ramUpLevel }
        drill := { Part.reset.drill with spindles := t.drill.spindles }
        closer := { Part.reset.closer with hangerEmpty := t.closer.hangerEmpty }
        stations := { Part.reset.stations with guardsOpen := t.stations.guardsOpen }
        sup := { Part.reset.sup with
          powerUpFlag := t.sup.powerUpFlag, driverHotFlag := t.sup.driverHot, supplyLow := t.sup.supplyLow
          driverShutdown := t.sup.driverShutdown, driverHot := t.sup.driverHot, stopInput := t.sup.stopInput } } ∧
      (∀ i, t.spindle i = { Part.reset.spindle i with
        downLevel := (t.spindle i).downLevel, upLevel := (t.spindle i).upLevel }) ∧
      t.tracker.queue = [] ∧ t.tracker.expected = none ∧ t.tracker.gate = .reject ∧ t.books = ⟨[], [], none⟩ ∧
      t.patterns = Part.reset.patterns ∧ t.cmd = ⟨[], none⟩ ∧
      t.timebase = ⟨⟨8, .rising, 600, 500, 500, 400⟩, .unset, 0, 0, 0⟩ ∧
      t.port.unitAddress = pins.toNat ∧ t.port.rxBuf = [] ∧ t.port.rx = .outside ∧ t.port.outList = [] ∧
      t.port.linkError = false ∧ t.port.sending = none ∧
      t.punch.state = .idle ∧ (∀ c, 1 ≤ c → c ≤ 49 → t.coilHealth c = .ok) ∧ t.punch.ramWindow = 250 ∧
      t.punch.returnWindow = 250 ∧ t.punch.engaged = [] ∧ t.punch.held = false ∧ t.punch.deadline = none ∧
      (∀ i, (t.spindle i).state = .idle ∧ (t.spindle i).copy = none ∧ (t.spindle i).deadline = none ∧
        t.drill.profiles.get i = ⟨.oneShot, 2, 400, 50, 400⟩ ∧ t.drill.map.get i = i) ∧
      t.drill.cycle = [] ∧ t.drill.held = false ∧
      t.closer.state = .idle ∧ t.closer.current = none ∧ t.closer.pocketA = ⟨.free, none⟩ ∧
      t.closer.pocketB = ⟨.free, none⟩ ∧ t.closer.requests = [] ∧ t.closer.active = none ∧ t.closer.staged = none ∧
      t.closer.deadline = none ∧ t.closer.wireClass = 0 ∧ t.closer.windows = ⟨300, 500, 80, 200, 400, 500, 1500⟩ ∧
      t.closer.faultRecord = none ∧
      t.sup.line = .idle ∧ t.sup.pocketWait = false ∧ t.sup.feedMargin = 2 ∧
      t.sup.enables = ⟨true, true, false, false, false⟩ ∧ t.sup.haltRecord = none ∧ t.sup.secondary = none ∧
      t.sup.more = false ∧ t.sup.notice = none ∧ t.sup.driverHotFlag = t.sup.driverHot ∧
      t.stations.activation = .none ∧ t.stations.outOfService = .none ∧ t.stations.lock = false

/-! ### Deadlines -/

/-- A deadline is passed when count minus deadline, modulo 2^32, lies between 1 and 2^31 − 1; one armed as count plus a
window shorter than 2^31 is not passed on its count and is passed one beyond; the segment slots and every station window
use this test. -/
def Obligations.DeadlinePassed : Prop :=
  (∀ d c : Count, passed d c = true ↔ 1 ≤ (c.toNat + 2 ^ 32 - d.toNat) % 2 ^ 32 ∧
    (c.toNat + 2 ^ 32 - d.toNat) % 2 ^ 32 ≤ 2 ^ 31 - 1) ∧
  (∀ (c : Count) (w k : Nat), k ≤ w → w < 2 ^ 31 →
    passed (c + BitVec.ofNat 32 w) (c + BitVec.ofNat 32 k) = false) ∧
  (∀ (c : Count) (w : Nat), passed (c + BitVec.ofNat 32 w) (c + BitVec.ofNat 32 (w + 1)) = true) ∧
  [Segment.leadIn, .mid, .runOut, .drop].map Segment.stage = [Stage.entered, .toDrill, .toGate, .dropping] ∧
  (∀ (p : Part) (seg : Segment) (d : Deadline) (e : Entry),
    p.slot seg = some (d, e) ↔ p.oldest seg.stage = some e ∧ e.deadline = some d) ∧
  (∀ p : Part, p.countOf .position = p.timebase.position ∧ p.countOf .time = p.timebase.millis) ∧
  (∀ st : CloserState, Part.bindState st = true ↔ st ∈ [CloserState.clamp, .hanger, .feed, .cut, .close, .eject]) ∧
  (∀ (p : Part) (seg : Segment) (d : Deadline) (e : Entry), p.slot seg = some (d, e) → p.sup.line ≠ .halt →
    p.isDue (.jam seg) = passed d.count (p.countOf d.kind)) ∧
  (∀ (p : Part) (i : Idx4) (d : Count), (p.spindle i).deadline = some d →
    ((p.spindle i).state = .plunge → p.isDue (.plungeWindow i) = passed d p.timebase.millis) ∧
    ((p.spindle i).state = .dwell → p.isDue (.dwell i) = passed d p.timebase.millis) ∧
    ((p.spindle i).state = .retract → p.isDue (.drillStuck i) = passed d p.timebase.millis)) ∧
  (∀ (p : Part) (d : Count), p.punch.deadline = some d →
    (p.punch.state = .strike → p.sup.line ≠ .halt → p.isDue .ramStall = passed d p.timebase.millis) ∧
    (p.punch.state = .ramReturn → p.isDue .ramStuck = passed d p.timebase.millis)) ∧
  (∀ (p : Part) (d : Count), p.closer.deadline = some d →
    (Part.bindState p.closer.state = true → p.isDue .closerWindow = passed d p.timebase.millis) ∧
    (p.closer.state = .dump → p.isDue .dumpWindow = passed d p.timebase.millis))

/-! ### Requests -/

/-- The seven read requests complete with their payloads, item by item, and a request of a code that no request has, or
with an empty body, is answered UNKNOWN_REQUEST; each changes nothing but the two lists. A read of a body out of range
is BAD_FIELD, of a book without a record UNKNOWN_BOOK, and a request of a wrong length BAD_LENGTH: stated here for the
reads and for HALT, CLEAR FAULTS, RESET, AMEND BOOK and CANCEL BOOK. The form of a compound item is log 16's; that these
refusals carry no payload is log 15's reading. -/
def Obligations.ReadAndUnknownRequestsComplete : Prop :=
  ∀ (s : State) (it : Item), let p := s.toPart
  p.executable = some it →
  let done (payload : List Byte) : Host.Outcome State Fault Refusal :=
    .next (s.withPart (p.popCommand.placeReply it .ok payload))
  let refused (r : ResultCode) : Host.Outcome State Fault Refusal :=
    .next (s.withPart (p.popCommand.placeReply it r []))
  let faulted := (List.range' 1 49).filter fun c => p.coilHealth c != .ok
  let n := p.sup.enables
  let profile (f : Profile) : List Byte :=
    [byte f.mode.code, byte f.peckCount] ++ be2 f.plungeWindow ++ be2 f.dwell ++ be2 f.retractWindow
  let spindle (x : Spindle) : List Byte := [byte x.state.code] ++ flag x.downLevel ++ flag x.upLevel ++
    optional (fun c => [byte c.number.toNat, byte x.passes] ++ flag x.timedOut)
      (if x.state ∈ [SpindleState.plunge, .dwell, .retract, .done] then x.copy else none)
  let pocket (x : Pocket) : List Byte := [byte x.state.code] ++ optional be2 x.book
  let w := p.closer.windows
  let queued (x : Entry × Nat) : List Byte := let e := x.1
    byte x.2 :: halfBytes e.sequence ++ be2 e.book ++ [byte e.leaf, byte e.role, byte e.face, byte e.pattern] ++
    optional (fun v => [byte v.code]) e.voidReason ++ [byte e.stage.code] ++
    optional (fun d => byte d.kind.code :: countBytes d.count) e.deadline ++
    optional (fun d => [byte d.code]) e.destination ++
    optional (fun r => [byte r.code]) e.punchResult ++ optional (fun r => [byte r.code]) e.punchSkip ++
    optional (fun r => [byte r.code]) e.drillResult ++ optional (fun r => [byte r.code]) e.drillSkip ++
    [byte e.faultedPins.length, byte e.faultedSpindles.length] ++ optional (fun o => [byte o.code]) e.outcome
  let halted (r : HaltRecord) : List Byte :=
    byte r.cause.code :: r.cause.detail ++ [byte r.lineBefore.code] ++ optional halfBytes r.headSequence ++
    optional be2 r.bookConcerned ++ countBytes r.position ++
    optional (fun x => be2 x.book ++ halfBytes x.sequence) r.resumePoint
  let secondary (r : SecondaryRecord) : List Byte := byte r.cause.code :: r.cause.detail ++ optional be2 r.bookConcerned
  (it.ticket.body = [1] → exec .readStatus s = done (
    [byte p.sup.line.code] ++ flag p.sup.pocketWait ++ flag p.transportRun ++ flag p.feedHold ++
    [byte p.sup.feedMargin, byte p.timebase.state.code, p.stations.activation.bits, p.stations.outOfService.bits] ++
    flag p.stations.lock ++ flag p.stations.guardsOpen.punch ++ flag p.stations.guardsOpen.drill ++
    flag p.stations.guardsOpen.closer ++ [p.effectiveSet.bits] ++
    flag p.sup.supplyLow ++ flag p.sup.driverShutdown ++ flag p.sup.driverHot ++ flag p.sup.stopInput ++
    [byte p.punch.dieLines.toNat] ++
    flag p.sup.powerUpFlag ++ flag p.port.linkError ++ flag p.sup.driverHotFlag ++
    flag (faulted != []) ++ flag (p.closer.state == .fault) ++ flag p.port.linkError ++ flag p.sup.driverHotFlag ++
    flag p.sup.powerUpFlag ++
    flag n.pinFaults ++ flag n.closerFault ++ flag n.linkError ++ flag n.driverHot ++ flag n.powerUp ++
    flag p.faultLine ++ [byte p.signal.code] ++
    [byte p.tracker.queue.length, byte (p.tracker.queue.countP fun e => e.stage == .waiting),
      byte p.books.records.length] ++ optional halfBytes p.tracker.expected ++
    [byte p.punch.state.code] ++ be2 p.punch.ramWindow ++ be2 p.punch.returnWindow ++
    counted (fun c => [byte c, byte (p.coilHealth c).code]) faulted ++
    [byte (p.spindle .i1).state.code, byte (p.spindle .i2).state.code, byte (p.spindle .i3).state.code,
      byte (p.spindle .i4).state.code] ++
    [byte p.closer.state.code, byte p.closer.pocketA.state.code, byte p.closer.pocketB.state.code,
      byte p.closer.wireClass] ++ [byte p.port.unitAddress] ++ be2 3160 ++ [1])) ∧
  (∀ start count, it.ticket.body = [2, start, count] → start.toNat ≤ 23 → 1 ≤ count.toNat → count.toNat ≤ 4 →
    let window := (p.tracker.queue.drop start.toNat).take count.toNat
    exec .readQueue s =
      done ([byte p.tracker.queue.length, byte p.waitingCount, byte window.length] ++
        (window.zipIdx start.toNat).flatMap queued)) ∧
  (∀ x y b, it.ticket.body = [3, x, y] → p.book? (nat2 x y) = some b →
    exec .readBook s = done (
      be2 b.number ++ [byte b.state.code, byte b.expected, byte b.admitted, byte b.gathered, byte b.diverted,
        byte b.lost, byte b.inQueue, byte b.wireClass, byte b.loopCount, if b.hanger then 1 else 2,
        b.pocket.elim 0 fun k => byte k.code] ++
      optional (fun r => [byte r.code]) b.spoilReason ++ [b.generation] ++ halfBytes b.openingSeq ++
      [byte b.lastLeaf] ++ optional (fun o => [byte o.code]) b.outcome ++ flag (p.loaded b))) ∧
  (∀ n, it.ticket.body = [4, n] → n.toNat ≤ 63 →
    (p.pattern? n.toNat = none → exec .readPattern s = done [n, 1, byte (p.useCount n.toNat), 0, 0, 0, 0]) ∧
    (∀ d, p.pattern? n.toNat = some d → exec .readPattern s = done (
      [n, 2, byte (p.useCount n.toNat), 1, byte d.die.code, 1] ++ counted (fun c => [byte c]) d.pins ++
      [1, if d.notch then 1 else 2, 1] ++ counted (fun i => [byte i.toNat]) d.drill))) ∧
  (it.ticket.body = [5] → exec .readDrill s = done (
    p.drill.profiles.toList.flatMap profile ++ p.drill.map.toList.map (fun i => byte i.toNat) ++
    p.drill.spindles.toList.flatMap spindle ++ counted (fun i => [byte i.toNat]) p.drill.cycle ++
    optional (fun e => halfBytes e.sequence) (if p.drill.held then p.oldest .atDrill else none) ++
    counted (fun i => [byte i.toNat]) p.drill.faulted ++
    optional (fun e => halfBytes e.sequence) (if p.drill.pendingSetup then p.oldest .atDrill else none))) ∧
  (it.ticket.body = [6] → exec .readCloser s = done (
    [byte p.closer.state.code] ++
    optional (fun cur => [byte cur.pocket.code] ++ be2 cur.book) p.closer.current ++
    pocket p.closer.pocketA ++ pocket p.closer.pocketB ++ counted (fun k => [byte k.code]) p.closer.requests ++
    optional (fun a => [byte a.value] ++ be2 a.book ++ [byte a.mark.code]) p.closer.active ++
    optional (fun g => [byte g.value] ++ be2 g.book) p.closer.staged ++ [byte p.closer.wireClass] ++
    optional (fun f => [byte f.step.code] ++ be2 f.book ++ [byte f.pocket.code, byte f.cause.code])
      p.closer.faultRecord ++
    be2 w.clamp ++ be2 w.hanger ++ be2 w.loop ++ be2 w.cut ++ be2 w.close ++ be2 w.eject ++ be2 w.dump ++
    flag p.closer.hangerEmpty)) ∧
  (it.ticket.code ∉
      [1, 2, 3, 4, 5, 6, 7, 16, 17, 18, 19, 20, 21, 32, 33, 34, 35, 36, 37, 38, 39, 40, 41, 42, 48, 49] →
    exec .unknownRequest s = refused .unknownRequest) ∧
  (∀ start count, it.ticket.body = [2, start, count] → 23 < start.toNat ∨ count.toNat = 0 ∨ 4 < count.toNat →
    exec .readQueue s = refused .badField) ∧
  (∀ x y, it.ticket.body = [3, x, y] → p.book? (nat2 x y) = none → exec .readBook s = refused .unknownBook) ∧
  (∀ n, it.ticket.body = [4, n] → 63 < n.toNat → exec .readPattern s = refused .badField) ∧
  (∀ x ∈ [((1, 1), Instr.readStatus), ((2, 3), .readQueue), ((3, 3), .readBook), ((4, 2), .readPattern),
      ((5, 1), .readDrill), ((6, 1), .readCloser), ((7, 1), .readHalt), ((18, 1), .halt), ((20, 1), .clearFaults),
      ((21, 1), .reset), ((48, 5), .amendBook), ((49, 3), .cancelBook)],
    it.ticket.code = x.1.1 → it.ticket.body.length ≠ x.1.2 → exec x.2 s = refused .badLength) ∧
  (it.ticket.body = [7] →
    exec .readHalt s =
      done (byte p.sup.line.code :: optional halted p.sup.haltRecord ++ optional secondary p.sup.secondary ++
        flag p.sup.more ++ flag p.noticePending))

/-- RUN and STOP complete. RUN enters RUN from IDLE with no condition, and where no sheet waits and the closer takes
nothing that is all; the closer's take follows in the same event, and for a sheet that waits at the gate its decision
first, as in HOLD (`follow`, see `Obligations.CloserCyclesEnd`); in RUN and HOLD nothing changes. STOP goes to IDLE
from RUN and HOLD, and changes nothing in IDLE; a raised pocket-wait condition stands. -/
def Obligations.RunAndStopComplete : Prop :=
  ∀ (s : State) (it : Item), let p := s.toPart
  p.executable = some it →
  let running := p.popCommand.onSup fun u => { u with line := .run }
  let waiting := p.popCommand.onSup fun u => { u with line := .hold }
  (it.ticket.body = [16] →
    (p.sup.line = .idle → p.runCondition = none → p.sup.pocketWait = false → running.takeable = none →
      exec .run s = .next (s.withPart (running.placeReply it .ok [2]))) ∧
    (p.sup.line = .idle → p.runCondition = none →
      ∃ q : Part, exec .run s = .next (s.withPart q) ∧ (q.sup.line = .run ∨ q.sup.line = .hold) ∧
        q.timebase = p.timebase ∧ q.stations = p.stations ∧ q.patterns = p.patterns ∧ q.punch = p.punch ∧
        q.drill = p.drill) ∧
    (p.sup.line = .idle → p.runCondition = none →
      (p.sup.pocketWait = false → exec .run s = .next (s.withPart (running.follow.placeReply it .ok [2]))) ∧
      (p.sup.pocketWait = true → p.hasStage .atGate = true → let q := waiting.follow
        exec .run s = .next (s.withPart (q.placeReply it .ok [byte q.sup.line.code])))) ∧
    (p.sup.line = .run → exec .run s = .next (s.withPart (p.popCommand.placeReply it .ok [2]))) ∧
    (p.sup.line = .hold → exec .run s = .next (s.withPart (p.popCommand.placeReply it .ok [3])))) ∧
  (it.ticket.body = [17] →
    (p.sup.line = .run ∨ p.sup.line = .hold → exec .stop s = .next (s.withPart
      ((p.popCommand.onSup fun u => { u with line := .idle }).placeReply it .ok [1]))) ∧
    (p.sup.line = .idle → exec .stop s = .next (s.withPart (p.popCommand.placeReply it .ok [1]))))

/-- RUN and STOP are refused: both WRONG_STATE in HALT and BAD_LENGTH with a body of another length; RUN in IDLE
CONDITION_PRESENT with the first condition that holds, in the order of R135, which the first clause spells out with the
bytes that name each. Nothing but the two lists changes. That a CONDITION_PRESENT reply carries the condition and then
the line state is log 18's reading; that a WRONG_STATE and a BAD_LENGTH reply carry the line state is log 15's. -/
def Obligations.RunAndStopRefused : Prop :=
  (∀ p : Part, p.runCondition =
    if p.timebase.state ≠ .valid then some (.timebase p.timebase.state)
    else if p.sup.supplyLow then some .supplyLow
    else if p.sup.driverShutdown then some .driverShutdown
    else if p.stations.activation.punch && p.stations.guardsOpen.punch then some (.guardOpen .punch)
    else if p.stations.activation.drill && p.stations.guardsOpen.drill then some (.guardOpen .drill)
    else if p.stations.activation.closer && p.stations.guardsOpen.closer then some (.guardOpen .closer)
    else if p.punch.state = .fault then some .punchFault
    else if (p.spindle .i1).state = .fault then some (.spindleFault .i1)
    else if (p.spindle .i2).state = .fault then some (.spindleFault .i2)
    else if (p.spindle .i3).state = .fault then some (.spindleFault .i3)
    else if (p.spindle .i4).state = .fault then some (.spindleFault .i4)
    else none) ∧
  (∀ t, (Condition.timebase t).bytes = [1, byte t.code]) ∧
  Condition.supplyLow.bytes = [2, 0] ∧ Condition.driverShutdown.bytes = [3, 0] ∧
  (Condition.guardOpen .punch).bytes = [4, 1] ∧ (Condition.guardOpen .drill).bytes = [4, 2] ∧
  (Condition.guardOpen .closer).bytes = [4, 3] ∧ Condition.punchFault.bytes = [5, 0] ∧
  (∀ i : Idx4, (Condition.spindleFault i).bytes = [6, byte i.toNat]) ∧
  ∀ (s : State) (it : Item), let p := s.toPart
  p.executable = some it →
  (it.ticket.body = [16] →
    (p.sup.line = .halt → exec .run s = .next (s.withPart (p.popCommand.placeReply it .wrongState [4]))) ∧
    (∀ t, p.sup.line = .idle → p.timebase.state = t → t ≠ .valid →
      exec .run s = .next (s.withPart (p.popCommand.placeReply it .conditionPresent [1, byte t.code, 1]))) ∧
    (p.sup.line = .idle → p.timebase.state = .valid → p.sup.supplyLow = true →
      exec .run s = .next (s.withPart (p.popCommand.placeReply it .conditionPresent [2, 0, 1]))) ∧
    (p.sup.line = .idle → p.timebase.state = .valid → p.sup.supplyLow = false → p.sup.driverShutdown = true →
      exec .run s = .next (s.withPart (p.popCommand.placeReply it .conditionPresent [3, 0, 1]))) ∧
    (∀ c, p.sup.line = .idle → p.runCondition = some c →
      exec .run s = .next (s.withPart (p.popCommand.placeReply it .conditionPresent (c.bytes ++ [1]))))) ∧
  (it.ticket.body = [17] →
    (p.sup.line = .halt → exec .stop s = .next (s.withPart (p.popCommand.placeReply it .wrongState [4])))) ∧
  (∀ x ∈ [(16, Instr.run), (17, .stop)], it.ticket.code = x.1 → it.ticket.body.length ≠ 1 →
    exec x.2 s = .next (s.withPart (p.popCommand.placeReply it .badLength [byte p.sup.line.code])))

/-- HALT completes, with HALT_REQUEST raised by the model's one `raise`, whose effects HaltEntryEffects states: outside
HALT the line enters HALT; in HALT the cause goes to the secondary record. -/
def Obligations.HaltCompletes : Prop :=
  ∀ (s : State) (it : Item), let p := s.toPart
  p.executable = some it → it.ticket.body = [18] →
  let q := p.popCommand.raise .haltRequest none
  exec .halt s = .next (s.withPart (q.placeReply it .ok [4])) ∧
  (p.sup.line ≠ .halt → q.sup.line = .halt ∧
    (∃ r, q.sup.haltRecord = some r ∧ r.cause = .haltRequest ∧ r.lineBefore = p.sup.line ∧ r.bookConcerned = none ∧
      r.position = p.timebase.position) ∧ q.sup.secondary = none ∧ q.sup.more = false) ∧
  (p.sup.line = .halt → p.sup.secondary = none → exec .halt s = .next (s.withPart
    ((p.popCommand.onSup fun u => { u with secondary := some ⟨.haltRequest, none⟩ }).placeReply it .ok [4]))) ∧
  (p.sup.line = .halt → p.sup.secondary ≠ none → exec .halt s = .next (s.withPart
    ((p.popCommand.onSup fun u => { u with more := true }).placeReply it .ok [4])))

/-- The RESUME test, in the order of R163. RESUME completes in both modes: CONTINUE changes the line state alone; FLUSH
makes every WAITING entry DONE FLUSHED, spoils the records in OPEN and FILLED with FLUSHED and brings every SPOILED
record's expected count down to its admitted count, each with its end test, and is answered with the two counts. It is
refused outside HALT, for another mode, for another body length and while a condition holds. The books' part of FLUSH is
stated for a part whose pockets and books agree, as every step leaves them. The spec does not order the books of one
FLUSH: that their pockets join the request list, and their records the end order, in opening order is the model's
reading (log 21). That WRONG_STATE, BAD_FIELD and BAD_LENGTH carry no payload (log 15), and that CONDITION_PRESENT
carries the condition before the line state (log 18), are the model's readings. -/
def Obligations.ResumeCompletes : Prop :=
  (∀ p : Part, p.resumeCondition =
    if p.sup.supplyLow then some .supplyLow
    else if p.sup.driverShutdown then some .driverShutdown
    else if p.timebase.state ≠ .valid then some (.timebase p.timebase.state)
    else if p.punch.state = .fault then some .punchFault
    else if (p.spindle .i1).state = .fault then some (.spindleFault .i1)
    else if (p.spindle .i2).state = .fault then some (.spindleFault .i2)
    else if (p.spindle .i3).state = .fault then some (.spindleFault .i3)
    else if (p.spindle .i4).state = .fault then some (.spindleFault .i4)
    else if p.stations.activation.punch && p.stations.guardsOpen.punch then some (.guardOpen .punch)
    else if p.stations.activation.drill && p.stations.guardsOpen.drill then some (.guardOpen .drill)
    else if p.stations.activation.closer && p.stations.guardsOpen.closer then some (.guardOpen .closer)
    else none) ∧
  ∀ (s : State) (it : Item), let p := s.toPart
  p.executable = some it →
  let waits (e : Entry) : Bool := e.stage == .waiting
  let spoils (b : Book) : Bool := b.state == .opened || b.state == .filled
  let ended (b : Book) : Book :=
    if b.state = .spoiled ∧ b.inQueue = 0 ∧ b.pocket = none then
      { b with state := .ended, generation := b.generation + 1, outcome := some .spoiled }
    else b
  let flushed (b : Book) : Book :=
    if spoils b then
      ended { b with state := .spoiled, generation := b.generation + 1, spoilReason := some .flushed, expected := b.admitted }
    else if b.state = .spoiled then ended { b with expected := b.admitted }
    else b
  (it.ticket.body = [19, 1] → p.sup.line = .halt → p.resumeCondition = none → exec .resume s = .next (s.withPart
    ((p.popCommand.onSup fun u => { u with line := .idle }).placeReply it .ok [1, 1, 0, 0]))) ∧
  (it.ticket.body = [19, 2] → p.sup.line = .halt → p.resumeCondition = none → ∃ q : Part,
    exec .resume s = .next (s.withPart
      (q.placeReply it .ok [2, 1, byte (p.tracker.queue.countP waits), byte (p.books.records.countP spoils)])) ∧
    q = { p with
      cmd := p.popCommand.cmd, sup := { p.sup with line := .idle }
      tracker := { p.tracker with queue := p.tracker.queue.map fun e => if waits e then e.finish .flushed else e }
      patterns := q.patterns, books := q.books, closer := q.closer } ∧
    (∀ n < 64, q.pattern? n = p.pattern? n ∧ q.useCount n =
      p.useCount n - p.tracker.queue.countP fun e => waits e && !e.isVoid && e.pattern == n) ∧
    q.books.tailBook = p.books.tailBook ∧
    (p.PocketsHeld → p.BooksSound →
      q.books.records = p.books.records.map flushed ∧
      q.books.endOrder = p.books.endOrder ++
        (p.books.records.filter fun b => b.state != .ended && (flushed b).state == .ended).map Book.id ∧
      (∀ k, q.pocket k =
        if (p.pocket k).state = .gathering then { p.pocket k with state := .dumpWait } else p.pocket k) ∧
      q.closer.requests = p.closer.requests ++ (p.books.records.filter spoils).filterMap Book.pocket ∧
      (∀ g, p.closer.staged = some g → q.closer.staged =
        if p.books.records.any (fun b => spoils b && b.id == g.id) then none else some g) ∧
      (p.closer.staged = none → q.closer.staged = none) ∧
      q.closer = { p.closer with pocketA := q.closer.pocketA, pocketB := q.closer.pocketB,
                                 requests := q.closer.requests, staged := q.closer.staged })) ∧
  (∀ m, it.ticket.body = [19, m] → p.sup.line ≠ .halt →
    exec .resume s = .next (s.withPart (p.popCommand.placeReply it .wrongState []))) ∧
  (∀ l, it.ticket.body = 19 :: l → l.length ≠ 1 →
    exec .resume s = .next (s.withPart (p.popCommand.placeReply it .badLength []))) ∧
  (∀ m, it.ticket.body = [19, m] → p.sup.line = .halt → m ≠ 1 → m ≠ 2 →
    exec .resume s = .next (s.withPart (p.popCommand.placeReply it .badField []))) ∧
  (∀ m c, it.ticket.body = [19, m] → m = 1 ∨ m = 2 → p.sup.line = .halt → p.resumeCondition = some c →
    exec .resume s = .next (s.withPart (p.popCommand.placeReply it .conditionPresent (c.bytes ++ [4]))))

/-- CLEAR FAULTS completes, each block by its rule: every coil OK; a punch or a spindle in FAULT goes to IDLE where
its up level shows; a closer in FAULT is recovered, its pocket FREE, the gathered leaves of its book lost with the end
test behind it, the active count of that book cleared; the flags. Nothing else changes but what follows in the same
event (`follow`), and the reply carries what then stands. -/
def Obligations.ClearFaultsCompletes : Prop :=
  ∀ (s : State) (it : Item), let p := s.toPart
  p.executable = some it → it.ticket.body = [20] →
  ∃ q : Part, let t := q.follow
    exec .clearFaults s = .next (s.withPart (t.placeReply it .ok (
      [0, byte t.punch.state.code, byte (t.spindle .i1).state.code, byte (t.spindle .i2).state.code,
        byte (t.spindle .i3).state.code, byte (t.spindle .i4).state.code, byte t.closer.state.code] ++
      flag t.sup.powerUpFlag ++ flag t.port.linkError ++ flag t.sup.driverHotFlag))) ∧
    q = { p with
      cmd := p.popCommand.cmd, punch := q.punch, drill := { p.drill with spindles := q.drill.spindles }
      closer := q.closer, books := q.books
      sup := { p.sup with powerUpFlag := false, driverHotFlag := p.sup.driverHotFlag && p.sup.driverHot }
      port := { p.port with linkError := false } } ∧
    (∀ c, 1 ≤ c → c ≤ 49 → q.coilHealth c = .ok ∧ t.coilHealth c = .ok) ∧
    (p.punch.state = .fault → p.punch.ramUpLevel = true → q.punch = { p.punch with
      state := .idle, treatment := none, engaged := [], faulted := [], brokenOff := false, held := false
      deadline := none, health := q.punch.health }) ∧
    (p.punch.state ≠ .fault ∨ p.punch.ramUpLevel = false → q.punch = { p.punch with health := q.punch.health }) ∧
    (∀ i, q.spindle i =
      if (p.spindle i).state = .fault ∧ (p.spindle i).upLevel = true then { p.spindle i with
        state := .idle, copy := none, passes := 0, timedOut := false, deadline := none }
      else p.spindle i) ∧
    (p.closer.state ≠ .fault → q.closer = p.closer ∧ q.books = p.books) ∧
    (∀ cur b, p.closer.state = .fault → p.closer.current = some cur → p.book? cur.book = some b →
      let c : Book := { b with lost := b.lost + b.gathered, gathered := 0, pocket := none }
      let ends : Bool := c.state == .spoiled && c.admitted == c.expected && c.inQueue == 0
      q.closer = { p.closer with
        state := .idle, current := none, deadline := none, pocketA := q.closer.pocketA, pocketB := q.closer.pocketB
        active := p.closer.active.filter fun a => a.id != b.id } ∧
      q.pocket cur.pocket = ⟨.free, none⟩ ∧ (∀ k, k ≠ cur.pocket → q.pocket k = p.pocket k) ∧
      q.books.tailBook = p.books.tailBook ∧ (∀ m, m ≠ cur.book → q.book? m = p.book? m) ∧
      q.book? cur.book = some (if ends then
        { c with state := .ended, generation := c.generation + 1, outcome := some .spoiled } else c) ∧
      q.books.endOrder = p.books.endOrder ++ (if ends then [b.id] else [])) ∧
    t.sup.haltRecord = p.sup.haltRecord ∧ t.sup.secondary = p.sup.secondary ∧ t.sup.notice = p.sup.notice ∧
    (p.sup.line ≠ .hold → t.sup.line = p.sup.line)

/-- RESET's execution: every block takes its link reset in the one event, and the completion point is taken; with queue
and book table empty RESET completes at once. A controller's own reaction is that of R81 at the punch, R96 at the drill
and R119 at the closer: a spindle in PLUNGE or DWELL is drawn up to RETRACT, or its pass ends at once in DONE where
spindle-up shows, one in RETRACT keeps on, one in IDLE, DONE or FAULT stays; a cycle with none left in RETRACT ends, its
DONE spindles IDLE. -/
def Obligations.ResetExecutes : Prop :=
  ∀ (s : State) (it : Item), let p := s.toPart
  p.executable = some it → it.ticket.body = [21] →
  let due (w : Nat) : Option Count := some (p.timebase.millis + BitVec.ofNat 32 w)
  let ends (b : Book) : Book :=
    if b.state = .ended then b
    else { b with
      state := .ended, generation := b.generation + 1, outcome := some .spoiled, expected := b.admitted
      spoilReason := some (b.spoilReason.getD .linkReset), pocket := none
      lost := if b.pocket = none then b.lost else b.lost + b.gathered
      gathered := if b.pocket = none then b.gathered else 0 }
  let newlyEnded := p.books.records.filter fun b => b.state != .ended
  let endOrder := p.books.endOrder ++ newlyEnded.map Book.id
  let idle : Punch := { p.punch with
    state := .idle, treatment := none, engaged := [], faulted := [], brokenOff := false, held := false
    pendingSetup := false, deadline := none }
  let drawn (i : Idx4) : Spindle := let x := p.spindle i
    if x.state = .plunge ∨ x.state = .dwell then
      if x.upLevel = true then { x with state := .done, passes := 0, deadline := none }
      else { x with state := .retract, passes := 0, deadline := due x.profile.retractWindow }
    else if x.state = .retract then { x with passes := 0 }
    else x
  let cycleEnds : Bool := p.drill.cycle != [] && p.drill.cycle.all fun i => (drawn i).state != .retract
  ∃ q : Part, exec .reset s = .next (s.withPart q) ∧
    q.sup = { p.sup with line := .idle, pocketWait := false, driverHotFlag := p.sup.driverHot, haltRecord := none,
                         secondary := none, more := false } ∧
    q.tracker = { p.tracker with
      expected := none, gate := .reject
      queue := p.tracker.queue.map (fun e => if e.stage = .done then e else e.finish .flushed) } ∧
    (∀ n < 64, q.pattern? n = p.pattern? n ∧ q.useCount n =
      p.useCount n - p.tracker.queue.countP fun e => !e.isVoid && e.stage != .done && e.pattern == n) ∧
    q.books = ⟨p.books.records.map ends, endOrder, none⟩ ∧
    (p.punch.state = .idle ∨ p.punch.state = .ramReturn ∨ p.punch.state = .fault →
      q.punch = { p.punch with held := false, pendingSetup := false }) ∧
    (p.punch.state = .engage ∨ (p.punch.state = .strike ∧ p.punch.ramUpLevel = true) → q.punch = idle) ∧
    (p.punch.state = .strike → p.punch.ramUpLevel = false → q.punch = { p.punch with
      state := .ramReturn, deadline := due p.punch.returnWindow, held := false, pendingSetup := false }) ∧
    (∀ i, q.spindle i = if cycleEnds = true ∧ (drawn i).state = .done then (drawn i).toIdle else drawn i) ∧
    q.drill = { p.drill with
      spindles := q.drill.spindles, held := false, pendingSetup := false
      cycle := if cycleEnds then [] else p.drill.cycle, faulted := if cycleEnds then [] else p.drill.faulted } ∧
    q.closer = { p.closer with
      state := .idle, current := none, pocketA := ⟨.free, none⟩, pocketB := ⟨.free, none⟩, requests := []
      deadline := none, active := none, staged := none } ∧
    q.timebase = p.timebase ∧ q.stations = p.stations ∧
    (p.tracker.queue ≠ [] ∨ newlyEnded ≠ [] ∨ (∃ i b, endOrder.getLast? = some i ∧ p.recordById? i = some b) →
      q.cmd = { p.cmd with resetting := some ⟨p.tracker.queue.getLast?.map Entry.id, endOrder.getLast?, it.addressed,
        p.tracker.queue.countP (fun e => e.stage != .done), newlyEnded.length⟩ } ∧
      q.port = { p.port with linkError := false }) ∧
    (p.tracker.queue = [] → p.books.records = [] →
      q.cmd = { p.cmd with list := p.cmd.list.tail } ∧
      q.port = (({ p with port := { p.port with linkError := false } } : Part).placeReply it .ok [0, 0]).port)

/-- RESET_COMPLETES: once its completion point has been sent, the RESET in progress leaves the command list, and an
addressed one is answered with the two counts. -/
def Obligations.ResetCompletesStep : Prop :=
  ∀ (s : State) (it : Item) (rest : List Item) (r : ResetProgress), let p := s.toPart
  p.cmd = ⟨it :: rest, some r⟩ →
  (∀ i, r.entry = some i → ∀ e ∈ p.tracker.queue, e.id ≠ i) →
  (∀ i, r.record = some i → ∀ b ∈ p.books.records, b.id ≠ i) →
  exec .resetCompletes s = .next (s.withPart
    ({ p with cmd := ⟨rest, none⟩ }.placeReply it .ok [byte r.flushed, byte r.ended]))

/-- LOAD PATTERN, every outcome, in the order of R56: BAD_LENGTH for a body that its counts do not fit or with counts out
of range; BAD_FIELD for a field out of its range or its order; IN_USE; else the entry takes the fields, the spindles in
ascending order, and every use count and every other entry stay. A refusal changes nothing but the two lists. That
BAD_LENGTH and BAD_FIELD carry no payload is log 15's reading. -/
def Obligations.LoadPatternCompletes : Prop :=
  ∀ (s : State) (it : Item), let p := s.toPart
  p.executable = some it → it.ticket.code = 32 →
  let refused (r : ResultCode) (payload : List Byte) : Host.Outcome State Fault Refusal :=
    .next (s.withPart (p.popCommand.placeReply it r payload))
  let gives (number die notch n m : Byte) (pins spindles : List Byte) : Prop :=
    it.ticket.body = [32, number, die, notch, n] ++ pins ++ m :: spindles ∧
    pins.length = n.toNat ∧ spindles.length = m.toNat ∧ n.toNat ≤ 48 ∧ m.toNat ≤ 4
  ((¬∃ number die notch n m pins spindles, gives number die notch n m pins spindles) →
    exec .loadPattern s = refused .badLength []) ∧
  ∀ number die notch n m pins spindles, gives number die notch n m pins spindles →
    let k := number.toNat
    let good : Prop := 1 ≤ k ∧ k ≤ 63 ∧ 1 ≤ die.toNat ∧ die.toNat ≤ 7 ∧
      (∀ c ∈ pins, 1 ≤ c.toNat ∧ c.toNat ≤ 48) ∧ (pins.map BitVec.toNat).Pairwise (· < ·) ∧
      (notch = 1 ∨ notch = 2) ∧ (∀ x ∈ spindles, 1 ≤ x.toNat ∧ x.toNat ≤ 4) ∧ spindles.Nodup
    let d : PatternDef := ⟨.kind die.toNat, pins.map BitVec.toNat, notch == 1,
      [Idx4.i1, .i2, .i3, .i4].filter fun i => spindles.any fun x => x.toNat == i.toNat⟩
    (¬good → exec .loadPattern s = refused .badField []) ∧
    (good → 0 < p.useCount k → exec .loadPattern s =
      refused .inUse [number, if (p.pattern? k).isSome then 2 else 1, byte (p.useCount k)]) ∧
    (good → p.useCount k = 0 → ∃ q : Part, exec .loadPattern s = .next (s.withPart q) ∧
      q.pattern? k = some d ∧ (∀ j, q.useCount j = p.useCount j) ∧
      (∀ j, j ≠ k → q.pattern? j = p.pattern? j) ∧
      q = { p with patterns := q.patterns }.popCommand.placeReply it .ok [number, 2, 0])

/-- CLEAR PATTERN, every outcome; and, for an EMPTY entry, that a ticket naming it which would otherwise continue the
tail book or open a book is VOID with NO_PATTERN, the tail book then spoiled with VOID_LEAF. -/
def Obligations.ClearPatternOutcomes : Prop :=
  ∀ (s : State) (it : Item), let p := s.toPart
  p.executable = some it → it.ticket.code = 33 →
  let refused (r : ResultCode) (payload : List Byte) : Host.Outcome State Fault Refusal :=
    .next (s.withPart (p.popCommand.placeReply it r payload))
  (it.ticket.body.length ≠ 2 → exec .clearPattern s = refused .badLength []) ∧
  ∀ n, it.ticket.body = [33, n] →
    (n.toNat = 0 ∨ 63 < n.toNat → exec .clearPattern s = refused .badField []) ∧
    (1 ≤ n.toNat → n.toNat ≤ 63 → 0 < p.useCount n.toNat → exec .clearPattern s =
      refused .inUse [n, if (p.pattern? n.toNat).isSome then 2 else 1, byte (p.useCount n.toNat)]) ∧
    (1 ≤ n.toNat → n.toNat ≤ 63 → p.useCount n.toNat = 0 →
      ∃ q : Part, exec .clearPattern s = .next (s.withPart q) ∧ q.pattern? n.toNat = none ∧
        (∀ k, q.useCount k = p.useCount k) ∧ (∀ k, k ≠ n.toNat → q.pattern? k = p.pattern? k) ∧
        q = { p with patterns := q.patterns }.popCommand.placeReply it .ok [n, 1, 0] ∧
        ∀ (r : Part) (f : SheetFields), f.pattern = n.toNat → r.pattern? n.toNat = none →
          (∀ b, r.tailRecord f.book = some b → b.admitted < b.expected → f.leaf = b.lastLeaf + 1 →
            r.judgeBook f = (r.spoil f.book .voidLeaf true, .void .noPattern)) ∧
          (∀ h, r.tailRecord f.book = none → f.header = some h → r.book? f.book = none →
            r.books.records.length < 12 → r.closer.wireClass = h.wireClass → h.wireClass ≠ 0 →
            r.judgeBook f = (r, .void .noPattern)))

/-- SET PUNCH, SET PROFILE and SET LINE, every outcome, in the order of R82, R97 and R149: BAD_LENGTH; WRONG_STATE in RUN
and HOLD; BAD_FIELD for a field out of its range; else the settings are replaced and nothing else changes. A refusal
carries the settings as they stand, SET PROFILE's where its number is in range. That the BAD_LENGTH reply to SET PUNCH
carries them too is log 15's reading. -/
def Obligations.SettingRequestsComplete : Prop :=
  ∀ (s : State) (it : Item), let p := s.toPart
  p.executable = some it →
  let free : Prop := p.sup.line = .idle ∨ p.sup.line = .halt
  let busy : Prop := p.sup.line = .run ∨ p.sup.line = .hold
  let refused (r : ResultCode) (payload : List Byte) : Host.Outcome State Fault Refusal :=
    .next (s.withPart (p.popCommand.placeReply it r payload))
  let windows := be2 p.punch.ramWindow ++ be2 p.punch.returnWindow
  (it.ticket.code = 34 → it.ticket.body.length ≠ 5 → exec .setPunch s = refused .badLength windows) ∧
  (∀ a b c d, it.ticket.body = [34, a, b, c, d] →
    let good : Prop := 10 ≤ nat2 a b ∧ nat2 a b ≤ 1000 ∧ 10 ≤ nat2 c d ∧ nat2 c d ≤ 1000
    (busy → exec .setPunch s = refused .wrongState windows) ∧
    (free → ¬good → exec .setPunch s = refused .badField windows) ∧
    (free → good → exec .setPunch s = .next (s.withPart
      ((p.popCommand.onPunch fun x => { x with ramWindow := nat2 a b, returnWindow := nat2 c d }).placeReply it .ok
        [a, b, c, d])))) ∧
  (it.ticket.code = 35 → it.ticket.body.length ≠ 10 → exec .setProfile s = refused .badLength []) ∧
  (∀ n m k a b c d e f, it.ticket.body = [35, n, m, k, a, b, c, d, e, f] →
    let good : Prop := (m = 1 ∨ m = 2) ∧ 2 ≤ k.toNat ∧ k.toNat ≤ 8 ∧ 10 ≤ nat2 a b ∧ nat2 a b ≤ 2000 ∧
      nat2 c d ≤ 1000 ∧ 10 ≤ nat2 e f ∧ nat2 e f ≤ 2000
    let given : Profile :=
      ⟨if m = 1 then .oneShot else .peck, k.toNat, nat2 a b, nat2 c d, nat2 e f⟩
    (n.toNat = 0 ∨ 4 < n.toNat →
      (busy → exec .setProfile s = refused .wrongState []) ∧ (free → exec .setProfile s = refused .badField [])) ∧
    (∀ i : Idx4, n.toNat = i.toNat →
      let x := p.drill.profiles.get i
      let stands : List Byte := [n, byte x.mode.code, byte x.peckCount] ++ be2 x.plungeWindow ++ be2 x.dwell ++
        be2 x.retractWindow
      (busy → exec .setProfile s = refused .wrongState stands) ∧
      (free → ¬good → exec .setProfile s = refused .badField stands) ∧
      (free → good → exec .setProfile s = .next (s.withPart
        ((p.popCommand.onDrill fun x => { x with profiles := x.profiles.set i given }).placeReply it .ok
          [n, m, k, a, b, c, d, e, f]))))) ∧
  (it.ticket.code = 42 → it.ticket.body.length ≠ 7 → exec .setLine s = refused .badLength []) ∧
  (∀ m a b c d e, it.ticket.body = [42, m, a, b, c, d, e] →
    let n := p.sup.enables
    let stands : List Byte := byte p.sup.feedMargin :: flag n.pinFaults ++ flag n.closerFault ++ flag n.linkError ++
      flag n.driverHot ++ flag n.powerUp
    let good : Prop := 1 ≤ m.toNat ∧ m.toNat ≤ 4 ∧ ∀ x ∈ [a, b, c, d, e], x = 0 ∨ x = 1
    (busy → exec .setLine s = refused .wrongState stands) ∧
    (free → ¬good → exec .setLine s = refused .badField stands) ∧
    (free → good → exec .setLine s = .next (s.withPart
      ((p.popCommand.onSup fun u => { u with
        feedMargin := m.toNat, enables := ⟨a == 1, b == 1, c == 1, d == 1, e == 1⟩ }).placeReply it .ok
          [m, a, b, c, d, e]))))

/-- MAP SPINDLES, every outcome. That the BAD_LENGTH reply carries the map too is log 15's reading. -/
def Obligations.MapSpindlesOutcomes : Prop :=
  ∀ (s : State) (it : Item), let p := s.toPart
  p.executable = some it → it.ticket.code = 36 →
  let refused (r : ResultCode) : Host.Outcome State Fault Refusal :=
    .next (s.withPart (p.popCommand.placeReply it r (p.drill.map.toList.map fun i => byte i.toNat)))
  (it.ticket.body.length ≠ 5 → exec .mapSpindles s = refused .badLength) ∧
  ∀ a b c d, it.ticket.body = [36, a, b, c, d] →
    (p.sup.line = .run ∨ p.sup.line = .hold → exec .mapSpindles s = refused .wrongState) ∧
    (p.sup.line = .idle ∨ p.sup.line = .halt →
      (∃ x ∈ [a, b, c, d], x.toNat = 0 ∨ 4 < x.toNat) → exec .mapSpindles s = refused .badField) ∧
    (∀ i j k l : Idx4, p.sup.line = .idle ∨ p.sup.line = .halt →
      a.toNat = i.toNat → b.toNat = j.toNat → c.toNat = k.toNat → d.toNat = l.toNat →
      exec .mapSpindles s = .next (s.withPart
        ((p.popCommand.onDrill fun x => { x with map := ⟨i, j, k, l⟩ }).placeReply it .ok [a, b, c, d])))

/-- SET CLOSER, every outcome, in the order of R120: BAD_LENGTH; WRONG_STATE in RUN and HOLD; BAD_FIELD for a class or a
window out of its range (R103); IN_USE for a change of class with a book record present; else class and windows are
replaced and nothing else changes. A refusal carries the settings as they stand, BAD_LENGTH included (log 15's reading),
and IN_USE the number of records behind them. -/
def Obligations.SetCloserCompletes : Prop :=
  ∀ (s : State) (it : Item), let p := s.toPart
  p.executable = some it → it.ticket.code = 37 →
  let refused (r : ResultCode) (more : List Byte) : Host.Outcome State Fault Refusal :=
    let w := p.closer.windows
    .next (s.withPart (p.popCommand.placeReply it r (byte p.closer.wireClass :: be2 w.clamp ++ be2 w.hanger ++
      be2 w.loop ++ be2 w.cut ++ be2 w.close ++ be2 w.eject ++ be2 w.dump ++ more)))
  (it.ticket.body.length ≠ 16 → exec .setCloser s = refused .badLength []) ∧
  ∀ (cls : Byte) (l : List Byte), it.ticket.body = 37 :: cls :: l → l.length = 14 →
    let h (i : Nat) : Nat := nat2 (l.getD (2 * i) 0) (l.getD (2 * i + 1) 0)
    let good : Prop := cls.toNat ≤ 4 ∧ (∀ i < 7, 10 ≤ h i) ∧ h 0 ≤ 2000 ∧ h 1 ≤ 2000 ∧ h 2 ≤ 500 ∧ h 3 ≤ 2000 ∧
      h 4 ≤ 2000 ∧ h 5 ≤ 2000 ∧ h 6 ≤ 5000
    (p.sup.line = .run ∨ p.sup.line = .hold → exec .setCloser s = refused .wrongState []) ∧
    (p.sup.line = .idle ∨ p.sup.line = .halt →
      (¬good → exec .setCloser s = refused .badField []) ∧
      (good → cls.toNat ≠ p.closer.wireClass → p.books.records ≠ [] →
        exec .setCloser s = refused .inUse [byte p.books.records.length]) ∧
      (good → cls.toNat = p.closer.wireClass ∨ p.books.records = [] → exec .setCloser s = .next (s.withPart
        ((p.popCommand.onCloser fun x => { x with
          wireClass := cls.toNat, windows := ⟨h 0, h 1, h 2, h 3, h 4, h 5, h 6⟩ }).placeReply it .ok (cls :: l)))))

/-- SET TIMEBASE, every outcome, in the order of R124: BAD_LENGTH; TIMEBASE_LOCKED outside UNSET; BAD_FIELD for a setting
out of its range (R122); else the six settings are replaced and nothing else changes. START TIMEBASE enters STARTING from
UNSET and changes nothing in any other state, and its reply carries state, settings and counts, BAD_LENGTH included
(log 15's reading). -/
def Obligations.TimebaseRequestsComplete : Prop :=
  ∀ (s : State) (it : Item), let p := s.toPart
  p.executable = some it →
  let x := p.timebase.settings
  let settings : List Byte := [byte x.scale, byte x.edge.code] ++ be2 x.leadIn ++ be2 x.mid ++ be2 x.runOut ++ be2 x.drop
  let now : List Byte := byte p.timebase.state.code :: settings ++ countBytes p.timebase.position ++
    countBytes p.timebase.millis ++ [byte p.timebase.runCount]
  let refused (r : ResultCode) (payload : List Byte) : Host.Outcome State Fault Refusal :=
    .next (s.withPart (p.popCommand.placeReply it r payload))
  (it.ticket.code = 38 → it.ticket.body.length ≠ 11 → exec .setTimebase s = refused .badLength []) ∧
  (it.ticket.code = 38 → it.ticket.body.length = 11 → p.timebase.state ≠ .unset →
    exec .setTimebase s = refused .timebaseLocked (byte p.timebase.state.code :: settings)) ∧
  (∀ c e a1 a2 b1 b2 c1 c2 d1 d2, it.ticket.body = [38, c, e, a1, a2, b1, b2, c1, c2, d1, d2] →
    p.timebase.state = .unset →
    let good : Prop := 1 ≤ c.toNat ∧ c.toNat ≤ 64 ∧ (e = 1 ∨ e = 2 ∨ e = 3) ∧
      (∀ w ∈ [nat2 a1 a2, nat2 b1 b2, nat2 c1 c2], 50 ≤ w ∧ w ≤ 2000) ∧ 50 ≤ nat2 d1 d2 ∧ nat2 d1 d2 ≤ 3000
    (¬good → exec .setTimebase s = refused .badField (1 :: settings)) ∧
    (good → exec .setTimebase s = .next (s.withPart
      ((p.popCommand.onTimebase fun y => { y with settings :=
        ⟨c.toNat, if e = 1 then .rising else if e = 2 then .falling else .both, nat2 a1 a2, nat2 b1 b2, nat2 c1 c2,
          nat2 d1 d2⟩ }).placeReply it .ok [1, c, e, a1, a2, b1, b2, c1, c2, d1, d2])))) ∧
  (it.ticket.body = [39] → p.timebase.state = .unset → exec .startTimebase s = .next (s.withPart
    ((p.popCommand.onTimebase fun x => ⟨x.settings, .starting, 0, 0, 0⟩).placeReply it .ok
      (2 :: settings ++ [0, 0, 0, 0, 0, 0, 0, 0, 0])))) ∧
  (it.ticket.body = [39] → p.timebase.state ≠ .unset → exec .startTimebase s = .next (s.withPart
    (p.popCommand.placeReply it .ok now))) ∧
  (it.ticket.code = 39 → it.ticket.body.length ≠ 1 → exec .startTimebase s = .next (s.withPart
    (p.popCommand.placeReply it .badLength now)))

/-- STATIONS and SERVICE, every outcome, in the order of R141 and R143. STATIONS is taken in IDLE and HALT with the
timebase VALID and writes the activation set whole; SERVICE is taken while the lock is clear and writes the
out-of-service set and, with SET, the lock. A punch in ENGAGE whose station is then no longer effective goes to IDLE and
the sheet it holds is released SKIPPED with STATION_OFF. What follows in the same event is `follow` (nothing for
STATIONS, in IDLE and HALT); the reply carries the sets as they stand after the request. A refusal changes nothing and
carries the sets as they stand (for STATIONS, and for a BAD_LENGTH or BAD_FIELD SERVICE, log 15's reading). -/
def Obligations.StationRequestsComplete : Prop :=
  ∀ (s : State) (it : Item), let p := s.toPart
  p.executable = some it →
  let changes (i : Instr) (x : Stations) (payload : Part → List Byte) : Prop := ∃ q : Part,
    exec i s = .next (s.withPart (q.follow.placeReply it .ok (payload q))) ∧
    q = { p with cmd := { p.cmd with list := p.cmd.list.tail }, stations := x, punch := q.punch, tracker := q.tracker } ∧
    (p.sup.line = .idle ∨ p.sup.line = .halt → q.follow = q) ∧
    (q.effective .punch = true ∨ p.punch.state ≠ .engage → q.punch = p.punch) ∧
    (q.effective .punch = false → p.punch.state = .engage → q.punch = { p.punch with
      state := .idle, treatment := none, engaged := [], faulted := [], brokenOff := false, held := false
      deadline := none }) ∧
    (q.effective .punch = true ∨ p.punch.state ≠ .engage ∨ p.punch.held = false → q.tracker = p.tracker) ∧
    (∀ es fs e, q.effective .punch = false → p.punch.state = .engage → p.punch.held = true →
      p.tracker.queue = es ++ e :: fs → (∀ x ∈ es, x.stage ≠ .atPunch) → e.stage = .atPunch →
      q.tracker = { p.tracker with queue := es ++ { e with
        stage := .toDrill, punchResult := some .skipped, punchSkip := some .stationOff, faultedPins := []
        deadline := some ⟨.position, p.timebase.position +
          BitVec.ofNat 32 (p.timebase.settings.mid * p.timebase.settings.scale)⟩ } :: fs })
  let stops (i : Instr) (r : ResultCode) (payload : List Byte) : Prop :=
    exec i s = .next (s.withPart (p.popCommand.placeReply it r payload))
  let sets (q : Part) : List Byte := [q.stations.activation.bits, q.effectiveSet.bits]
  let service (q : Part) : List Byte :=
    [q.stations.outOfService.bits, if q.stations.lock then 1 else 0, q.effectiveSet.bits]
  let flags (l : List Byte) : Prop := ∀ x ∈ l, x = 0 ∨ x = 1
  (it.ticket.code = 40 → it.ticket.body.length ≠ 4 → stops .stations .badLength (sets p)) ∧
  (∀ a b c, it.ticket.body = [40, a, b, c] →
    (p.sup.line = .run ∨ p.sup.line = .hold → stops .stations .wrongState (sets p)) ∧
    (p.sup.line = .idle ∨ p.sup.line = .halt →
      (p.timebase.state ≠ .valid → stops .stations .timebaseNotValid (sets p)) ∧
      (p.timebase.state = .valid → ¬flags [a, b, c] → stops .stations .badField (sets p)) ∧
      (p.timebase.state = .valid → flags [a, b, c] →
        changes .stations { p.stations with activation := ⟨a == 1, b == 1, c == 1⟩ } sets))) ∧
  (it.ticket.code = 41 → it.ticket.body.length ≠ 5 → stops .service .badLength (service p)) ∧
  (∀ a b c l, it.ticket.body = [41, a, b, c, l] →
    (p.stations.lock = true → stops .service .locked (service p)) ∧
    (p.stations.lock = false → ¬flags [a, b, c, l] → stops .service .badField (service p)) ∧
    (p.stations.lock = false → flags [a, b, c, l] →
      changes .service { p.stations with outOfService := ⟨a == 1, b == 1, c == 1⟩, lock := l == 1 } service))

/-- AMEND BOOK completes for an amendable book: its loop count and any staged copy are replaced and the generation
rises; the refusals stand in R45's order and change nothing. -/
def Obligations.AmendBookCompletes : Prop :=
  ∀ (s : State) (it : Item) (x y g l : Byte) (b : Book), let p := s.toPart
  p.executable = some it → it.ticket.body = [48, x, y, g, l] → p.book? (nat2 x y) = some b →
  let refused (r : ResultCode) : Host.Outcome State Fault Refusal :=
    .next (s.withPart (p.popCommand.placeReply it r (be2 b.number ++ [b.generation, byte b.state.code])))
  (b.generation ≠ g → exec .amendBook s = refused .stale) ∧
  (b.generation = g → b.state = .closing ∨ b.state = .spoiled ∨ b.state = .ended ∨ p.loaded b = true →
    exec .amendBook s = refused .notAmendable) ∧
  (b.generation = g → b.state = .opened ∨ b.state = .filled ∨ b.state = .ready → p.loaded b = false →
    (l.toNat < 6 ∨ 60 < l.toNat → exec .amendBook s = refused .badField) ∧
    (6 ≤ l.toNat → l.toNat ≤ 60 → ∃ q : Part, exec .amendBook s = .next (s.withPart q) ∧
      q.books = { p.books with records := p.books.records.map fun r =>
        if r.number = b.number then { r with loopCount := l.toNat, generation := r.generation + 1 } else r } ∧
      q.closer = { p.closer with staged := p.closer.staged.map fun v =>
        if v.id = b.id then { v with value := l.toNat } else v } ∧
      q = { p with books := q.books, closer := q.closer }.popCommand.placeReply it .ok
        (be2 b.number ++ [b.generation + 1, l])))

/-- CANCEL BOOK completes for a book in OPEN, FILLED or READY: its record is SPOILED with CANCELLED, or ENDED at once,
with its expected count lowered; one that is SPOILED already keeps its reason, its expected count is lowered and the end
test follows. The part after the cancelling is the part after the model's one `spoil`, whose effects on every field
SpoilEffects states. What follows in the same event is `follow`. CLOSING and ENDED refuse it, and an unknown number. -/
def Obligations.CancelBookCompletes : Prop :=
  ∀ (s : State) (it : Item) (x y : Byte), let p := s.toPart
  p.executable = some it → it.ticket.body = [49, x, y] →
  (p.book? (nat2 x y) = none → exec .cancelBook s =
    .next (s.withPart (p.popCommand.placeReply it .unknownBook []))) ∧
  ∀ b, p.book? (nat2 x y) = some b →
    (b.state = .closing ∨ b.state = .ended → exec .cancelBook s = .next (s.withPart
      (p.popCommand.placeReply it .wrongState (be2 b.number ++ [byte b.state.code])))) ∧
    (b.state = .opened ∨ b.state = .filled ∨ b.state = .ready →
      let q := p.popCommand.spoil b.number .cancelled true
      ∃ (c : Book) (l : List Byte), exec .cancelBook s = .next (s.withPart (q.follow.placeReply it .ok l)) ∧
        q.book? b.number = some c ∧ (c.state = .spoiled ∨ c.state = .ended) ∧ c.spoilReason = some .cancelled ∧
        c.expected = b.admitted ∧ c.admitted = b.admitted ∧ (∀ m, m ≠ b.number → q.book? m = p.book? m) ∧
        q = { p with cmd := q.cmd, books := q.books, closer := q.closer } ∧ q.cmd = { p.cmd with list := p.cmd.list.tail } ∧
        (∀ x, q.follow.book? b.number = some x → l = be2 b.number ++ [x.generation, byte x.state.code,
          x.spoilReason.elim 0 fun r => byte r.code]) ∧
        (p.sup.line = .idle ∨ p.sup.line = .halt →
          l = be2 b.number ++ [c.generation, byte c.state.code, 6])) ∧
    (b.state = .spoiled →
      let low : Book := { b with expected := b.admitted }
      let ends : Bool := b.inQueue == 0 && b.pocket == none
      let c : Book := if ends then
        { low with state := .ended, generation := b.generation + 1, outcome := some .spoiled } else low
      let q := p.popCommand.spoil b.number .cancelled true
      ∃ l : List Byte, exec .cancelBook s = .next (s.withPart (q.follow.placeReply it .ok l)) ∧
        q.book? b.number = some c ∧ (∀ m, m ≠ b.number → q.book? m = p.book? m) ∧
        q.books.tailBook = p.books.tailBook ∧
        q.books.endOrder = p.books.endOrder ++ (if ends then [b.id] else []) ∧
        q = { p with cmd := q.cmd, books := q.books } ∧ q.cmd = { p.cmd with list := p.cmd.list.tail } ∧
        (∀ x, q.follow.book? b.number = some x → l = be2 b.number ++ [x.generation, byte x.state.code,
          x.spoilReason.elim 0 fun r => byte r.code]) ∧
        (p.sup.line = .idle ∨ p.sup.line = .halt → l = be2 b.number ++ [c.generation, byte c.state.code,
          b.spoilReason.elim 0 fun r => byte r.code]))

/-! ### The link -/

/-- A whole ticket arrives: a well-made one takes a place in arrival order; one with another CRC, or broken off, is
discarded with the link error flag set; with four complete tickets held it is refused. In the middle of a ticket it cuts
that one off and is checked in its own right. Which symbols of it have come before is the model's reading: right behind
a START_RECEIVED it is the ticket of that START, in the place that START took (log 9), and behind a refused START it is
the rest of the refused ticket (logs 9 and 10). -/
def Obligations.TicketReceivedCompletes : Prop :=
  ∀ (s : State) (p : Part), p = s.toPart.settle →
  let leaves (i : Instr) (port : Port) : Prop := exec i s = .next (s.withPart { p with port := port })
  (∀ t : Ticket, t.body.length ≤ 250 →
    let arrives := leaves (.ticketReceived t.wire .endSymbol)
    let buffered : Port := { p.port with rx := .outside, rxBuf := p.port.rxBuf ++ [⟨t, false⟩] }
    (p.port.rx = .outside → p.port.rxBuf.length < 4 → arrives buffered) ∧
    (p.port.rx = .inside [] → arrives buffered) ∧
    (∀ b bytes, p.port.rx = .inside (b :: bytes) → p.port.rxBuf.length < 4 →
      arrives { buffered with linkError := true })) ∧
  (∀ (bytes : List Byte) (close : TicketClose),
    parseTicket bytes = none ∨ close ≠ .endSymbol ∨ p.port.rx = .refused ∨
      (4 ≤ p.port.rxBuf.length ∧ p.port.rx ≠ .inside []) →
    leaves (.ticketReceived bytes close) { p.port with rx := .outside, linkError := true })

/-- What the part sends between START and END: the header, the body and the CRC, high byte first, and its own check reads
back that and nothing else, so that no bit of a ticket is dropped. The CRC bit by bit (R169), numbers as bytes, the
parts of a payload (R187, R189), the codes of R188 and R189 in the order of their tables, the condition and detail bytes
stated elsewhere, and what placing a reply is: a REPLY with destination 0, flags 0 and the request's tag, its body the
unit, the request code, the result code and the payload, at the tail of the output list; none for a broadcast request. -/
def Obligations.WireReadsBack : Prop :=
  (∀ t : Ticket, t.body.length ≤ 250 → parseTicket t.wire = some t) ∧
  (∀ (bytes : List Byte) (t : Ticket), parseTicket bytes = some t ↔ t.body.length ≤ 250 ∧ bytes = t.wire) ∧
  (∀ t : Ticket, let head := [t.kind, t.dest, t.flags, t.tag, BitVec.ofNat 8 t.body.length] ++ t.body
    t.wire = head ++ [BitVec.ofNat 8 ((crc head).toNat / 256), BitVec.ofNat 8 (crc head).toNat] ∧
    t.fence = t.flags.getLsbD 0 ∧ t.code = (t.body.getD 0 0).toNat) ∧
  (let shift (c : BitVec 16) : BitVec 16 := if c.msb then (c <<< 1) ^^^ 0x1021#16 else c <<< 1
   crc [] = 0xFFFF#16 ∧ ∀ (l : List Byte) (b : Byte),
     crc (l ++ [b]) = shift^[8] (crc l ^^^ (b.setWidth 16 <<< 8))) ∧
  (∀ n, byte n = BitVec.ofNat 8 n ∧ be2 n = [BitVec.ofNat 8 (n / 256), BitVec.ofNat 8 n]) ∧
  (∀ h : Half, halfBytes h = be2 h.toNat) ∧ (∀ a b : Byte, nat2 a b = 256 * a.toNat + b.toNat) ∧
  (∀ c : Count, countBytes c = [byte (c.toNat / 16777216), byte (c.toNat / 65536), byte (c.toNat / 256), byte c.toNat]) ∧
  flag true = [1] ∧ flag false = [0] ∧
  (∀ (f : Nat → List Byte), optional f none = [0] ∧ (∀ x, optional f (some x) = 1 :: f x) ∧
    ∀ l, counted f l = byte l.length :: l.flatMap f) ∧
  (∀ a b c, StationSet.bits ⟨a, b, c⟩ =
    byte ((if a then 1 else 0) + (if b then 2 else 0) + (if c then 4 else 0))) ∧
  [VoidReason.badField, .noHeader, .leafOrder, .noBook, .duplicateBook, .tableFull, .wireMismatch, .noPattern].map
    VoidReason.code = [1, 2, 3, 4, 5, 6, 7, 8] ∧
  [Outcome.gathered, .diverted, .lost, .flushed].map Outcome.code = [1, 2, 3, 4] ∧
  [Dest.pocketA, .pocketB, .reject].map Dest.code = [1, 2, 3] ∧
  [PunchResult.struck, .partStruck, .skipped, .notRequired].map PunchResult.code = [1, 2, 3, 4] ∧
  [DrillResult.drilled, .partDrilled, .skipped, .notRequired].map DrillResult.code = [1, 2, 3, 4] ∧
  [SkipReason.stationOff, .dieMismatch, .pinFault, .bookSpoiled, .voidEntry].map SkipReason.code = [1, 2, 3, 4, 5] ∧
  [Stage.waiting, .entered, .atPunch, .toDrill, .atDrill, .toGate, .atGate, .dropping, .done].map Stage.code =
    [1, 2, 3, 4, 5, 6, 7, 8, 9] ∧
  [DeadlineKind.position, .time].map DeadlineKind.code = [1, 2] ∧
  [LineState.idle, .run, .hold, .halt].map LineState.code = [1, 2, 3, 4] ∧
  [BookState.opened, .filled, .ready, .closing, .spoiled, .ended].map BookState.code = [1, 2, 3, 4, 5, 6] ∧
  [SpoilReason.sheetFault, .voidLeaf, .shortBook, .lineHalt, .closerFault, .cancelled, .flushed, .linkReset].map
    SpoilReason.code = [1, 2, 3, 4, 5, 6, 7, 8] ∧
  [BookOutcome.bound, .spoiled].map BookOutcome.code = [1, 2] ∧ [PocketId.a, .b].map PocketId.code = [1, 2] ∧
  [PocketState.free, .gathering, .full, .dumpWait, .binding, .dumping].map PocketState.code = [1, 2, 3, 4, 5, 6] ∧
  [CloserState.idle, .clamp, .hanger, .feed, .cut, .close, .eject, .dump, .fault].map CloserState.code =
    [1, 2, 3, 4, 5, 6, 7, 8, 9] ∧
  [CloserCause.window, .hangerEmpty, .guard].map CloserCause.code = [1, 2, 3] ∧
  [LoadMark.atTake, .atCut].map LoadMark.code = [1, 2] ∧
  [PunchState.idle, .engage, .strike, .ramReturn, .fault].map PunchState.code = [1, 2, 3, 4, 5] ∧
  [SpindleState.idle, .plunge, .dwell, .retract, .done, .fault].map SpindleState.code = [1, 2, 3, 4, 5, 6] ∧
  DieKind.any.code = 8 ∧ (∀ n, (DieKind.kind n).code = n) ∧
  [PinHealth.ok, .openCoil, .shortCoil].map PinHealth.code = [1, 2, 3] ∧
  [TimebaseState.unset, .starting, .valid, .lost].map TimebaseState.code = [1, 2, 3, 4] ∧
  [Edge.rising, .falling, .both].map Edge.code = [1, 2, 3] ∧ [ProfileMode.oneShot, .peck].map ProfileMode.code = [1, 2] ∧
  [Signal.steady, .pulsed, .off].map Signal.code = [1, 2, 3] ∧
  (∀ a b c d e f g h, [Cause.sequenceGap a b, .orphanSheet, .unexpectedSheet c d, .unexpectedMotion c, .doubleSheet a,
    .jam e a, .ramStall, .ramStuck, .drillStuck f, .guardOpen g, .supplyLow, .driverShutdown, .timebaseLost,
    .externalStop, .haltRequest].map Cause.code = List.range' 1 15 ∧
    (Cause.sequenceGap a b).detail = halfBytes a ++ halfBytes b ∧
    (Cause.jam .leadIn a).detail = [1, 0] ++ halfBytes a ∧ (Cause.jam .mid a).detail = [2, 0] ++ halfBytes a ∧
    (Cause.jam .runOut a).detail = [3, 0] ++ halfBytes a ∧ (Cause.jam .drop a).detail = [4, 0] ++ halfBytes a ∧
    (Cause.doubleSheet a).detail = [0, 0] ++ halfBytes a ∧ Cause.orphanSheet.detail = [1, 0, 0, 0] ∧
    (Cause.unexpectedMotion c).detail = [byte c.code, 0, 0, 0] ∧
    (Cause.unexpectedSheet c d).detail = [byte c.code, byte (d.elim 0 Dest.code), 0, 0] ∧
    Cause.ramStall.detail = [1, 0, 0, 0] ∧ Cause.ramStuck.detail = [1, 0, 0, 0] ∧
    (Cause.guardOpen .punch).detail = [1, 0, 0, 0] ∧ (Cause.guardOpen .drill).detail = [2, 0, 0, 0] ∧
    (Cause.guardOpen .closer).detail = [3, 0, 0, 0] ∧
    (Cause.drillStuck f).detail = [2, byte f.toNat, 0, 0] ∧
    (h ∈ [Cause.supplyLow, .driverShutdown, .timebaseLost, .externalStop, .haltRequest] → h.detail = [0, 0, 0, 0])) ∧
  [Sensor.entry, .punchRegister, .drillRegister, .exit, .landingA, .landingB, .landingReject].map Sensor.code =
    [1, 2, 3, 4, 5, 6, 7] ∧
  [ResultCode.ok, .unknownRequest, .badLength, .badField, .wrongState, .inUse, .locked, .timebaseLocked,
    .timebaseNotValid, .unknownBook, .stale, .notAmendable, .conditionPresent].map ResultCode.code = List.range' 1 13 ∧
  ∀ (p : Part) (it : Item) (r : ResultCode) (payload : List Byte),
    p.popCommand = { p with cmd := { p.cmd with list := p.cmd.list.tail } } ∧
    (it.ticket.dest ≠ 0 → p.placeReply it r payload = { p with port := { p.port with
      outList := p.port.outList ++ [⟨{
        kind := 4, dest := 0, flags := 0, tag := it.ticket.tag
        body := [byte p.port.unitAddress, byte it.ticket.code, byte r.code] ++ payload }, none⟩] } }) ∧
    (it.ticket.dest = 0 → p.placeReply it r payload = p)

/-- START_RECEIVED, STRAY_SYMBOL and DOWNSTREAM_HOLD: START takes a place, cuts off the ticket before it, or is refused
with four complete tickets held; a symbol outside any ticket is dropped and sets the link error flag; inside one a data
byte is kept, END checks the ticket into the buffer or discards it, and an invalid symbol, or a byte more than a header,
250 body bytes and a CRC, discards it; the downstream hold changes its level alone. That reception stands `refused`
after a refused START, so that its symbols are dropped, each setting the flag, up to its END or the next START, is log
10's reading; R170 says that the ticket is discarded and the flag set. -/
def Obligations.LinkSymbolsComplete : Prop :=
  ∀ (s : State) (p : Part), p = s.toPart.settle →
  let leaves (i : Instr) (port : Port) : Prop := exec i s = .next (s.withPart { p with port := port })
  (p.port.rx = .outside ∨ p.port.rx = .refused → p.port.rxBuf.length < 4 →
    leaves .startReceived { p.port with rx := .inside [] }) ∧
  (∀ bytes, p.port.rx = .inside bytes → p.port.rxBuf.length < 4 →
    leaves .startReceived { p.port with rx := .inside [], linkError := true }) ∧
  (4 ≤ p.port.rxBuf.length → leaves .startReceived { p.port with rx := .refused, linkError := true }) ∧
  (∀ y, p.port.rx = .outside → leaves (.straySymbol y) { p.port with linkError := true }) ∧
  (∀ bytes, p.port.rx = .inside bytes →
    let discarded : Port := { p.port with rx := .outside, linkError := true }
    (∀ b, bytes.length < 257 → leaves (.straySymbol (.dataByte b)) { p.port with rx := .inside (bytes ++ [b]) }) ∧
    (∀ b, 257 ≤ bytes.length → leaves (.straySymbol (.dataByte b)) discarded) ∧
    (∀ t, parseTicket bytes = some t →
      leaves (.straySymbol .endSymbol) { p.port with rx := .outside, rxBuf := p.port.rxBuf ++ [⟨t, false⟩] }) ∧
    (parseTicket bytes = none → leaves (.straySymbol .endSymbol) discarded) ∧
    leaves (.straySymbol .invalidSymbol) discarded) ∧
  (p.port.rx = .refused →
    leaves (.straySymbol .endSymbol) { p.port with rx := .outside, linkError := true } ∧
    (∀ y, y ≠ .endSymbol → leaves (.straySymbol y) { p.port with linkError := true })) ∧
  ∀ x, leaves (.downstreamHold x) { p.port with downHold := x }

/-- TICKET_CLASSIFIED: the head of the receive buffer goes where its class says once there is space, and waits in its
place while there is none: an addressed request to the command list, a broadcast one with an honoured code to both
lists, a ticket of another kind or destination to the output list, a turned report to the output list without a mark.
A fenced ticket takes the most recent entry in the queue as its mark, and an item with a mark is eligible once that
entry has left the queue. -/
def Obligations.TicketClassifiedCompletes : Prop :=
  ∀ (s : State) (t : Ticket) (rest : List RxItem), let p := s.toPart
  let here : Prop := t.dest.toNat = p.port.unitAddress ∧ 1 ≤ p.port.unitAddress ∧ p.port.unitAddress ≤ 31
  let honoured : Prop := t.dest = 0 ∧ t.code ∈ [16, 17, 18, 20, 21]
  let mark : Option Nat := if t.fence then p.tracker.queue.getLast?.map Entry.id else none
  let marked : Tracker := { p.tracker with
    queue := p.tracker.queue.map fun e => if mark = some e.id then { e with fenceMark := true } else e }
  let commands : CommandUnit := { p.cmd with list := p.cmd.list ++ [⟨t, mark⟩] }
  let popped : Port := { p.port with rxBuf := rest }
  let out (m : Option Nat) : Port := { popped with outList := p.port.outList ++ [⟨t, m⟩] }
  let passes : Prop := (t.kind = 1 → ¬here) ∧ (t.kind = 3 → ¬here ∧ ¬honoured)
  let becomes (q : Part) : Prop := exec .ticketClassified s = .next (s.withPart q)
  (p.port.rxBuf = ⟨t, false⟩ :: rest →
    (t.kind = 3 → here → p.cmd.list.length < 4 → becomes { p with port := popped, cmd := commands, tracker := marked }) ∧
    (t.kind = 3 → here → 4 ≤ p.cmd.list.length → becomes p) ∧
    (t.kind = 3 → ¬here → honoured → p.cmd.list.length < 4 → 1 ≤ p.outFree →
      becomes { p with port := out mark, cmd := commands, tracker := marked }) ∧
    (t.kind = 3 → ¬here → honoured → 4 ≤ p.cmd.list.length ∨ p.outFree = 0 → becomes p) ∧
    (passes → 1 ≤ p.outFree → becomes { p with port := out mark, tracker := marked }) ∧
    (passes → p.outFree = 0 → becomes p) ∧
    (t.kind = 1 → here → becomes p)) ∧
  (p.port.rxBuf = ⟨t, true⟩ :: rest →
    (1 ≤ p.outFree → becomes { p with port := out none }) ∧ (p.outFree = 0 → becomes p)) ∧
  ∀ (q : Part) (it : Item), q.eligible it = true ↔ ∀ i, it.mark = some i → ∀ e ∈ q.tracker.queue, e.id ≠ i

/-- What a spoil does to the one record it reaches, by that record's state: OPEN, FILLED and READY become SPOILED with
the reason, their pocket going to DUMP_WAIT and their staged count being discarded; CLOSING does so for a closer fault
and a halt alone, and keeps its pocket; SPOILED keeps its reason; ENDED keeps everything. The expected count is lowered
where the source lowers it, and the end test follows. That a spoil of a number that no record carries, which no run
reaches, changes nothing is log 20's choice. -/
def Obligations.SpoilEffects : Prop :=
  ∀ (p : Part) (n : Nat) (why : SpoilReason) (lower : Bool), let q := p.spoil n why lower
  (p.book? n = none → q = p) ∧
  ∀ b, p.book? n = some b →
    let low (x : Book) : Book := if lower then { x with expected := x.admitted } else x
    let struck : Book := { b with state := .spoiled, spoilReason := some why, generation := b.generation + 1 }
    let becomes (c : Book) (x : Closer) : Prop :=
      let ends : Bool := c.admitted == c.expected && c.inQueue == 0 && c.pocket == none
      q = { p with books := q.books, closer := x } ∧ q.books.tailBook = p.books.tailBook ∧
      (∀ m, m ≠ n → q.book? m = p.book? m) ∧
      q.book? n = some (if ends then
        { c with state := .ended, generation := c.generation + 1, outcome := some .spoiled } else c) ∧
      q.books.endOrder = p.books.endOrder ++ (if ends then [b.id] else [])
    (b.state = .opened ∨ b.state = .filled ∨ b.state = .ready →
      becomes (low struck) q.closer ∧
      (∀ k, q.pocket k =
        if b.pocket = some k ∧ ((p.pocket k).state = .gathering ∨ (p.pocket k).state = .full) then
          { p.pocket k with state := .dumpWait }
        else p.pocket k) ∧
      q.closer = { p.closer with
        pocketA := q.closer.pocketA, pocketB := q.closer.pocketB
        requests := p.closer.requests ++ (b.pocket.filter fun k => (p.pocket k).state == .gathering).toList
        staged := p.closer.staged.filter fun g => g.id != b.id }) ∧
    (b.state = .closing → why = .closerFault ∨ why = .lineHalt → becomes struck p.closer) ∧
    (b.state = .closing → why ≠ .closerFault → why ≠ .lineHalt → q = p) ∧
    (b.state = .spoiled → becomes (low b) p.closer) ∧
    (b.state = .ended → q = p)

/-- SHEET_ADMITTED: an addressed sheet ticket at the head, with a free entry and its sequence check passed (a body too
short for a sequence meets none), becomes an entry at the tail, WAITING, with the fields it carries; the expected
sequence is the next. The fields stand at the offsets of R188, a missing one as 0 (one received by half too, log 31),
and their checks, spelled out, are those of R6 and R188. A field that fails its check makes the entry VOID and touches
no book. Otherwise the cut-short test comes first, then just one of the book checks: the ticket continues the tail
book, opens a book, or is VOID with the first reason that applies. What follows in the same event is `follow`; what a
spoil does is `Obligations.SpoilEffects`. -/
def Obligations.SheetAdmittedCompletes : Prop :=
  ∀ (s : State) (t : Ticket) (rest : List RxItem), let p := s.toPart
  let f := sheetFields t.body
  p.port.rxBuf = ⟨t, false⟩ :: rest → t.kind = 1 → t.dest.toNat = p.port.unitAddress → 1 ≤ p.port.unitAddress →
  p.port.unitAddress ≤ 31 → p.tracker.queue.length < 24 →
  t.body.length < 2 ∨ p.tracker.expected = some f.sequence ∨
    (p.tracker.expected = none ∧ ∀ e, p.tracker.queue.getLast? = some e → e.sequence ≠ f.sequence) →
  let entered (w : Option VoidReason) : Tracker := { p.tracker with
    expected := if t.body.length < 2 then none else some (f.sequence + 1)
    nextId := p.tracker.nextId + 1
    queue := p.tracker.queue ++ [
      { id := p.tracker.nextId, ticket := t, sequence := f.sequence, book := f.book, leaf := f.leaf, role := f.role
        face := f.face, pattern := f.pattern, voidReason := w }] }
  let admits (q : Part) : Prop := exec .sheetAdmitted s = .next (s.withPart q.follow)
  let void (w : VoidReason) (r : Part) : Prop := admits { r with
    port := { p.port with rxBuf := rest }, tracker := entered (some w) }
  let counts (q r : Part) : Prop := admits q ∧
    q = { r with port := { p.port with rxBuf := rest }, tracker := entered none, patterns := q.patterns,
                 books := q.books } ∧
    ∀ n < 64, q.pattern? n = p.pattern? n ∧ q.useCount n = p.useCount n + if n = f.pattern then 1 else 0
  let cut : Part := match p.books.tailBook with
    | none => p
    | some m =>
      if m ≠ f.book ∧ (p.book? m).any (fun b => b.admitted < b.expected) = true then p.spoil m .shortBook true else p
  let loaded : Prop := (p.pattern? f.pattern).isSome = true
  let b (i : Nat) : Nat := (t.body.getD i 0).toNat
  let half (i : Nat) : Nat := if i + 1 < t.body.length then 256 * b i + b (i + 1) else 0
  let wrong : Prop := (t.body.length ≠ 8 ∧ t.body.length ≠ 12) ∨ half 2 = 0 ∨ b 4 = 0 ∨ 60 < b 4 ∨ 63 < b 7 ∨
    b 5 ∉ [1, 2, 3] ∨ b 6 ∉ [1, 2] ∨
    (t.body.length = 12 ∧ (b 8 < 2 ∨ 60 < b 8 ∨ b 9 < 1 ∨ 4 < b 9 ∨ b 10 < 6 ∨ 60 < b 10 ∨ b 11 ∉ [1, 2]))
  let headerless : Prop := (b 4 = 1 ∧ t.body.length ≠ 12) ∨ (b 4 ≠ 1 ∧ t.body.length = 12)
  f = { sequence := BitVec.ofNat 16 (half 0), book := half 2, leaf := b 4, role := b 5, face := b 6, pattern := b 7
        header := if t.body.length = 12 then some ⟨b 8, b 9, b 10, b 11⟩ else none
        lengthOk := t.body.length == 8 || t.body.length == 12 } ∧
  (wrong → fieldCheck f = some .badField) ∧ (¬wrong → headerless → fieldCheck f = some .noHeader) ∧
  (¬wrong → ¬headerless → fieldCheck f = none) ∧
  (t.body.length < 2 → fieldCheck f = some .badField) ∧
  (∀ w, fieldCheck f = some w → void w p) ∧
  (∀ b, fieldCheck f = none → p.books.tailBook = some f.book → p.book? f.book = some b →
    let next : Prop := b.admitted < b.expected ∧ f.leaf = b.lastLeaf + 1
    (next → loaded → ∃ q : Part, counts q p ∧ q.books.tailBook = p.books.tailBook ∧
      q.books.endOrder = p.books.endOrder ∧ (∀ m, m ≠ f.book → q.book? m = p.book? m) ∧
      let c : Book := { b with admitted := b.admitted + 1, inQueue := b.inQueue + 1, lastLeaf := f.leaf }
      q.book? f.book = some (if b.state = .opened ∧ b.admitted + 1 = b.expected then
        { c with state := .filled, generation := b.generation + 1 } else c)) ∧
    (next → ¬loaded → void .noPattern (p.spoil f.book .voidLeaf true)) ∧
    (¬next → void .leafOrder (p.spoil f.book .voidLeaf true))) ∧
  (∀ h, fieldCheck f = none → f.header = some h → p.books.tailBook ≠ some f.book →
    let mounted : Prop := p.closer.wireClass = h.wireClass ∧ p.closer.wireClass ≠ 0
    let known : Prop := (cut.book? f.book).isSome = true
    (known → void .duplicateBook cut) ∧
    (¬known → 12 ≤ p.books.records.length → void .tableFull cut) ∧
    (¬known → p.books.records.length < 12 → ¬mounted → void .wireMismatch cut) ∧
    (¬known → p.books.records.length < 12 → mounted → ¬loaded → void .noPattern cut) ∧
    (¬known → p.books.records.length < 12 → mounted → loaded → ∃ q : Part, counts q cut ∧ q.books = { cut.books with
      tailBook := some f.book
      records := cut.books.records ++ [
        { id := p.tracker.nextId, number := f.book, state := .opened, expected := h.expected, admitted := 1
          gathered := 0, diverted := 0, lost := 0, inQueue := 1, wireClass := h.wireClass, loopCount := h.loopCount
          hanger := h.hanger == 1, pocket := none, spoilReason := none, generation := 0, openingSeq := f.sequence
          lastLeaf := 1, outcome := none }] })) ∧
  (fieldCheck f = none → f.header = none → p.books.tailBook ≠ some f.book →
    (cut.book? f.book = none → void .noBook cut) ∧ (cut.book? f.book ≠ none → void .leafOrder cut))

/-- A sheet ticket with another sequence than the expected one or, the expected one being undefined, with the sequence
of the tail entry, where the expected value reported is the one after it: SEQUENCE_GAP is raised, by the model's one
`raise`, whose effects HaltEntryEffects states, the expected sequence is undefined, no entry is made, and the ticket
becomes a report, FLUSHED with reason SEQUENCE, in the output list where that has space and in its own place of the
receive buffer where it has not. -/
def Obligations.SequenceGapTurnsTicket : Prop :=
  ∀ (s : State) (t : Ticket) (rest : List RxItem) (x : Half), let p := s.toPart
  let y := (sheetFields t.body).sequence
  p.port.rxBuf = ⟨t, false⟩ :: rest → t.kind = 1 → t.dest.toNat = p.port.unitAddress → 1 ≤ p.port.unitAddress →
  p.port.unitAddress ≤ 31 → p.tracker.queue.length < 24 → 2 ≤ t.body.length → t.body.length ≤ 239 →
  (p.tracker.expected = some x ∧ x ≠ y) ∨
    (p.tracker.expected = none ∧ x = y + 1 ∧ ∃ e, p.tracker.queue.getLast? = some e ∧ e.sequence = y) →
  let report : Ticket := { t with
    kind := 2
    body := t.body ++ [byte p.port.unitAddress, 4, 9, 0, 0, 0, 0, 0, 0, 0, byte t.body.length] }
  let q := p.raise (.sequenceGap x y) none
  let turns (port : Port) : Prop := exec .sheetAdmitted s = .next (s.withPart
    { q with tracker := { q.tracker with expected := none }, port := port })
  (1 ≤ p.outFree → turns { p.port with rxBuf := rest, outList := p.port.outList ++ [⟨report, none⟩] }) ∧
  (p.outFree = 0 → turns { p.port with rxBuf := ⟨report, true⟩ :: rest }) ∧
  q.tracker.queue.length = p.tracker.queue.length ∧ q.cmd = p.cmd ∧ q.sup.line = .halt ∧
  (p.sup.line ≠ .halt → q.sup.haltRecord.map HaltRecord.cause = some (.sequenceGap x y)) ∧
  (p.sup.line = .halt → p.sup.secondary = none → q.sup.secondary = some ⟨.sequenceGap x y, none⟩) ∧
  (p.sup.line = .halt → p.sup.secondary ≠ none → q.sup = { p.sup with more := true })

/-- TRANSMIT_BEGIN takes the first of the notice, the head's report, the book notice and the eligible output head that
has an item; it begins nothing while the downstream holds or a ticket is being sent. That a notice can no longer be
replaced once its sending has begun, so that it leaves `sup.notice` here, is log 27's reading; that a ticket's content
is fixed here is log 26's. The bodies of HALT_NOTICE, sheet report and BOOK_DONE are written out field by field (R188,
R189); a report's body is cut to 250 bytes where the two do not fit. -/
def Obligations.TransmitBeginCompletes : Prop :=
  ∀ (s : State) (p : Part), p = s.toPart.settle →
  let unit := byte p.port.unitAddress
  let bit (b : Bool) (w : Nat) : Nat := if b then w else 0
  let code (x : Option Nat) : Byte := byte (x.getD 0)
  let notice (n : HaltNotice) : Ticket := {
    kind := 6, dest := 0, flags := 0, tag := 0
    body := [unit, byte n.cause.code] ++ n.cause.detail ++
      [byte (bit n.headSequence.isSome 1 + bit n.bookConcerned.isSome 2 + bit n.resumePoint.isSome 4 +
        bit n.superseded 8)] ++
      be2 (n.headSequence.elim 0 BitVec.toNat) ++ be2 (n.bookConcerned.getD 0) ++
      be2 (n.resumePoint.elim 0 ResumePoint.book) ++ be2 (n.resumePoint.elim 0 fun r => r.sequence.toNat) }
  let report (e : Entry) : Ticket :=
    let fields : List Byte := [unit, code (e.outcome.map Outcome.code), code (e.voidReason.map VoidReason.code),
      code (e.destination.map Dest.code), code (e.punchResult.map PunchResult.code),
      code (e.punchSkip.map SkipReason.code), code (e.drillResult.map DrillResult.code),
      code (e.drillSkip.map SkipReason.code), byte e.faultedPins.length] ++ e.faultedPins.map byte ++
      [byte e.faultedSpindles.length] ++ e.faultedSpindles.map fun i => byte i.toNat
    let kept := e.ticket.body.take (250 - (11 + e.faultedPins.length + e.faultedSpindles.length))
    { e.ticket with kind := 2, body := kept ++ fields ++ [byte kept.length] }
  let bookDone (b : Book) : Ticket := {
    kind := 5, dest := 0, flags := 0, tag := 0
    body := [unit] ++ be2 b.number ++ halfBytes b.openingSeq ++
      [code (b.outcome.map BookOutcome.code), byte b.expected, byte b.admitted, byte b.gathered, byte b.diverted,
        byte b.lost, if b.outcome = some .spoiled then code (b.spoilReason.map SpoilReason.code) else 0,
        if b.outcome = some .bound then byte b.loopCount else 0] }
  let silent : Prop := ∀ e es, p.tracker.queue = e :: es → e.stage ≠ .done
  (p.port.downHold = true ∨ p.port.sending ≠ none → exec .transmitBegin s = .next (s.withPart p)) ∧
  (p.port.downHold = false → p.port.sending = none →
    (∀ n, p.sup.notice = some n → exec .transmitBegin s = .next (s.withPart
      { p with port := { p.port with sending := some ⟨.haltNotice, notice n⟩ },
               sup := { p.sup with notice := none } })) ∧
    (∀ e es, p.sup.notice = none → p.tracker.queue = e :: es → e.stage = .done →
      exec .transmitBegin s = .next (s.withPart
        { p with port := { p.port with sending := some ⟨.report, report e⟩ } })) ∧
    (∀ i b ids, p.sup.notice = none → silent → p.books.endOrder = i :: ids →
      p.recordById? i = some b → exec .transmitBegin s = .next (s.withPart
        { p with port := { p.port with sending := some ⟨.bookDone, bookDone b⟩ } })) ∧
    (∀ it its, p.sup.notice = none → silent → p.books.endOrder = [] → p.port.outList = it :: its →
      p.eligible it = true → exec .transmitBegin s = .next (s.withPart
        { p with port := { p.port with sending := some ⟨.output, it.ticket⟩ } })))

/-- TICKET_SENT: the owner acts on the sent ticket. A report frees the head entry, and for a non-VOID one its book's
in-queue count falls by one with the end test behind it; a book notice frees the record first in the end order, and the
tail book with it where that was its book. That an entry whose book has no record, which no run reaches, is only freed
is log 20's choice. -/
def Obligations.TicketSentCompletes : Prop :=
  ∀ (s : State) (p : Part) (t : Ticket), p = s.toPart.settle →
  let sent (o : Owner) : Prop := p.port.sending = some ⟨o, t⟩
  let port : Port := { p.port with sending := none }
  let becomes (q : Part) : Prop := exec .ticketSent s = .next (s.withPart q)
  (sent .haltNotice → becomes { p with port := port }) ∧
  (sent .output → becomes { p with port := { port with outList := p.port.outList.tail } }) ∧
  (∀ e es, sent .report → p.tracker.queue = e :: es →
    let freed : Part := { p with port := port, tracker := { p.tracker with queue := es } }
    (e.voidReason ≠ none ∨ p.book? e.book = none → becomes freed) ∧
    (∀ b, e.voidReason = none → p.book? e.book = some b →
      let c : Book := { b with inQueue := b.inQueue - 1 }
      let ends : Bool := c.state == .spoiled && c.admitted == c.expected && c.inQueue == 0 && c.pocket == none
      ∃ q : Part, becomes q ∧ q = { freed with books := q.books } ∧ q.books.tailBook = p.books.tailBook ∧
        (∀ m, m ≠ e.book → q.book? m = p.book? m) ∧
        q.book? e.book = some (if ends then
          { c with state := .ended, generation := c.generation + 1, outcome := some .spoiled } else c) ∧
        q.books.endOrder = p.books.endOrder ++ (if ends then [b.id] else []))) ∧
  (∀ i ids, sent .bookDone → p.books.endOrder = i :: ids →
    let kept := p.books.records.filter fun b => b.id != i
    ((∃ b ∈ p.books.records, b.id = i ∧ p.books.tailBook = some b.number) →
      becomes { p with port := port, books := ⟨kept, ids, none⟩ }) ∧
    ((∀ b ∈ p.books.records, b.id = i → p.books.tailBook ≠ some b.number) →
      becomes { p with port := port, books := ⟨kept, ids, p.books.tailBook⟩ }))

/-! ### Sheet sensors -/

/-- A sensor event that cannot be bound halts the line: in IDLE and HOLD UNEXPECTED_MOTION, in RUN ORPHAN_SHEET and
UNEXPECTED_SHEET. A landing outside HALT with no DROPPING entry is UNEXPECTED_SHEET too, and so is one on another
destination than that of the oldest DROPPING entry, named by that destination (MISROUTE). The cause is raised by the
model's one `raise`, whose effects HaltEntryEffects states, and nothing else happens. In HALT no sheet sensor event
changes anything. -/
def Obligations.UnboundSensorsHalt : Prop :=
  ∀ (s : State) (p : Part), p = s.toPart.settle →
  let halts (c : Instr) (w : Cause) (book : Option Nat) : Prop :=
    exec c s = .next (s.withPart (p.raise w book)) ∧ (p.raise w book).sup.line = .halt ∧
      ∃ r, (p.raise w book).sup.haltRecord = some r ∧ r.cause = w ∧ r.bookConcerned = book
  (p.sup.line = .idle ∨ p.sup.line = .hold →
    (∀ d, halts (.entrySensor d) (.unexpectedMotion .entry) none) ∧
    halts .punchRegister (.unexpectedMotion .punchRegister) none ∧
    halts .drillRegister (.unexpectedMotion .drillRegister) none ∧
    halts .exitSensor (.unexpectedMotion .exit) none) ∧
  (p.sup.line = .run →
    (∀ d, p.oldest .waiting = none → halts (.entrySensor d) .orphanSheet none) ∧
    (p.hasStage .atPunch = true ∨ p.hasStage .entered = false →
      halts .punchRegister (.unexpectedSheet .punchRegister none) none) ∧
    (p.hasStage .atDrill = true ∨ p.hasStage .toDrill = false →
      halts .drillRegister (.unexpectedSheet .drillRegister none) none) ∧
    (p.hasStage .atGate = true ∨ p.hasStage .toGate = false →
      halts .exitSensor (.unexpectedSheet .exit none) none)) ∧
  (p.sup.line ≠ .halt → ∀ (l : LandingSensor) (x : Sensor) (d : Dest),
    (l, x, d) ∈ [(LandingSensor.pocketA, Sensor.landingA, Dest.pocketA), (.pocketB, .landingB, .pocketB),
      (.reject, .landingReject, .reject)] →
    (p.oldest .dropping = none → halts (.landing l) (.unexpectedSheet x none) none) ∧
    (∀ e, p.oldest .dropping = some e → e.destination ≠ some d →
      halts (.landing l) (.unexpectedSheet x e.destination) (if e.isVoid then none else some e.book))) ∧
  (p.sup.line = .halt → ∀ c ∈ [Instr.entrySensor true, .entrySensor false, .punchRegister, .drillRegister, .exitSensor,
    .landing .pocketA, .landing .pocketB, .landing .reject], exec c s = .next (s.withPart p))

/-- ENTRY_SENSOR in RUN: the oldest WAITING entry moves to ENTERED with the lead-in deadline; a double sheet then halts
the line on DOUBLE_SHEET, by the model's one `raise`, whose effects HaltEntryEffects states, with that entry's book as
the book concerned where it is not VOID. -/
def Obligations.EntrySensorCompletes : Prop :=
  ∀ (s : State) (p : Part) (es fs : List Entry) (e : Entry), p = s.toPart.settle → p.sup.line = .run →
  p.tracker.queue = es ++ e :: fs → (∀ x ∈ es, x.stage ≠ .waiting) → e.stage = .waiting →
  let d : Count := p.timebase.position +
    BitVec.ofNat 32 (p.timebase.settings.leadIn * p.timebase.settings.scale)
  let moved : Part := { p with
    tracker := { p.tracker with queue := es ++ { e with stage := .entered, deadline := some ⟨.position, d⟩ } :: fs } }
  exec (.entrySensor false) s = .next (s.withPart moved) ∧
  let q := moved.raise (.doubleSheet e.sequence) (if e.isVoid then none else some e.book)
  exec (.entrySensor true) s = .next (s.withPart q) ∧ q.sup.line = .halt ∧
    q.sup.haltRecord.map HaltRecord.cause = some (.doubleSheet e.sequence)

/-- PUNCH_REGISTER in RUN: the oldest ENTERED entry moves to AT_PUNCH. An idle controller takes its strike setup,
whose checks stand in R69's order: the first that applies releases it to TO_DRILL, none engages its items. A
controller that is not IDLE holds it as the pending setup. -/
def Obligations.PunchRegisterCompletes : Prop :=
  ∀ (s : State) (p : Part) (es fs : List Entry) (e : Entry), p = s.toPart.settle → p.sup.line = .run →
  p.tracker.queue = es ++ e :: fs → (∀ x ∈ es, x.stage ≠ .entered ∧ x.stage ≠ .atPunch) →
  (∀ x ∈ fs, x.stage ≠ .atPunch) → e.stage = .entered →
  let d : Count := p.timebase.position + BitVec.ofNat 32 (p.timebase.settings.mid * p.timebase.settings.scale)
  let t := p.treatment e
  let bad := t.required.filter fun c => p.coilHealth c != .ok
  let standing : Part := { p with tracker := { p.tracker with
    queue := es ++ { e with stage := .atPunch, deadline := none } :: fs } }
  let released (r : PunchResult) (w : Option SkipReason) (l : List Nat) : Prop :=
    exec .punchRegister s = .next (s.withPart
      { p with tracker := { p.tracker with queue := es ++ { e with
          stage := .toDrill, deadline := some ⟨.position, d⟩, punchResult := some r, punchSkip := w
          faultedPins := l } :: fs } })
  (p.punch.state ≠ .idle → exec .punchRegister s = .next (s.withPart
    { standing with punch := { p.punch with pendingSetup := true } })) ∧
  (p.punch.state = .idle → exec .punchRegister s = .next (s.withPart standing.strikeSetup) ∧
    (e.isVoid = true → released .skipped (some .voidEntry) []) ∧
    (e.isVoid = false → p.bookSpoiled e.book = true → released .skipped (some .bookSpoiled) []) ∧
    (e.isVoid = false → p.bookSpoiled e.book = false →
      (t.required = [] → released .notRequired none []) ∧
      (t.required ≠ [] → p.effective .punch = false → released .skipped (some .stationOff) []) ∧
      (t.required ≠ [] → p.effective .punch = true → dieMatches t.die p.punch.dieLines = false →
        released .skipped (some .dieMismatch) []) ∧
      (t.required ≠ [] → p.effective .punch = true → dieMatches t.die p.punch.dieLines = true → bad ≠ [] →
        released .skipped (some .pinFault) bad) ∧
      (t.required ≠ [] → p.effective .punch = true → dieMatches t.die p.punch.dieLines = true → bad = [] →
        exec .punchRegister s = .next (s.withPart
          { standing with punch := { p.punch with
              state := .engage, treatment := some t, engaged := t.required, faulted := [], brokenOff := false
              held := true, deadline := none } }))))

/-- DRILL_REGISTER in RUN: the oldest TO_DRILL entry moves to AT_DRILL. A station that is not busy takes its drill
setup: the releases, in R88's order, or the cycle, in which each required spindle copies the profile that the map
gives and starts its first pass. A level that shows already is taken in the same event. A busy station holds the entry
as the pending setup. -/
def Obligations.DrillRegisterCompletes : Prop :=
  ∀ (s : State) (p : Part) (es fs : List Entry) (e : Entry), p = s.toPart.settle → p.sup.line = .run →
  p.tracker.queue = es ++ e :: fs → (∀ x ∈ es, x.stage ≠ .toDrill ∧ x.stage ≠ .atDrill) →
  (∀ x ∈ fs, x.stage ≠ .atDrill) → e.stage = .toDrill →
  let d : Count := p.timebase.position + BitVec.ofNat 32 (p.timebase.settings.runOut * p.timebase.settings.scale)
  let due (w : Nat) : Option Count := some (p.timebase.millis + BitVec.ofNat 32 w)
  let standing : Part := { p with tracker := { p.tracker with
    queue := es ++ { e with stage := .atDrill, deadline := none } :: fs } }
  let left (r : DrillResult) (w : Option SkipReason) : Tracker := { p.tracker with queue := es ++ { e with
    stage := .toGate, deadline := some ⟨.position, d⟩, drillResult := some r, drillSkip := w
    faultedSpindles := [] } :: fs }
  let becomes (q : Part) : Prop := exec .drillRegister s = .next (s.withPart q)
  let number (i : Idx4) := p.drill.map.get i
  let profile (i : Idx4) := p.drill.profiles.get (number i)
  let passes (i : Idx4) := if (profile i).mode = .peck then (profile i).peckCount else 1
  let copied (i : Idx4) : Spindle := { p.spindle i with
    copy := some ⟨number i, profile i⟩, passes := passes i, timedOut := false }
  let through (i : Idx4) : Prop :=
    (p.spindle i).downLevel = true ∧ (profile i).dwell = 0 ∧ (p.spindle i).upLevel = true
  let l := (p.treatment e).spindles
  ((∃ i, (p.spindle i).state ≠ .idle) → becomes { standing with drill := { p.drill with pendingSetup := true } }) ∧
  ((∀ i, (p.spindle i).state = .idle) → becomes standing.drillSetup ∧
    (e.isVoid = true → becomes { p with tracker := left .skipped (some .voidEntry) }) ∧
    (e.isVoid = false → p.bookSpoiled e.book = true →
      becomes { p with tracker := left .skipped (some .bookSpoiled) }) ∧
    (e.isVoid = false → p.bookSpoiled e.book = false →
      (l = [] → becomes { p with tracker := left .notRequired none }) ∧
      (l ≠ [] → p.effective .drill = false → becomes { p with tracker := left .skipped (some .stationOff) }) ∧
      (l ≠ [] → p.effective .drill = true → (∀ i ∈ l, 1 ≤ passes i) →
        ((∃ i ∈ l, ¬through i) → ∃ q : Part, becomes q ∧
          q = { standing with drill := { p.drill with
            spindles := q.drill.spindles, cycle := l, held := true, faulted := [] } } ∧
          (∀ j, j ∉ l → q.spindle j = p.spindle j) ∧
          ∀ i ∈ l,
            ((p.spindle i).downLevel = false → q.spindle i = { copied i with
              state := .plunge, deadline := due (profile i).plungeWindow }) ∧
            ((p.spindle i).downLevel = true → 0 < (profile i).dwell → q.spindle i = { copied i with
              state := .dwell, deadline := due (profile i).dwell }) ∧
            ((p.spindle i).downLevel = true → (profile i).dwell = 0 → (p.spindle i).upLevel = false →
              q.spindle i = { copied i with state := .retract, deadline := due (profile i).retractWindow }) ∧
            (through i → q.spindle i = { copied i with state := .done, passes := 0, deadline := none })) ∧
        ((∀ i ∈ l, through i) → ∃ q : Part, becomes q ∧
          q = { p with
            tracker := left .drilled none
            drill := { p.drill with spindles := q.drill.spindles, cycle := [], held := false, faulted := [] } } ∧
          (∀ j, j ∉ l → q.spindle j = p.spindle j) ∧
          ∀ i ∈ l, q.spindle i = { p.spindle i with
            state := .idle, copy := none, passes := 0, timedOut := false, deadline := none }))))

/-- EXIT_SENSOR in RUN: the oldest TO_GATE entry meets the gate decision. It is diverted when VOID or when its book is
SPOILED; it goes to its book's pocket; it is granted the first FREE pocket; it waits and the line holds; or, with a
fault of its own, its book is spoiled, by the model's one `spoil`, whose effects SpoilEffects states, and it is
diverted. What follows in the same event is `follow`. -/
def Obligations.ExitSensorCompletes : Prop :=
  ∀ (s : State) (p : Part) (es fs : List Entry) (e : Entry), p = s.toPart.settle → p.sup.line = .run →
  p.tracker.queue = es ++ e :: fs → (∀ x ∈ es, x.stage ≠ .toGate ∧ x.stage ≠ .atGate) →
  (∀ x ∈ fs, x.stage ≠ .atGate) → e.stage = .toGate →
  let d : Count := p.timebase.millis + BitVec.ofNat 32 p.timebase.settings.drop
  let drops (x : Dest) : Part := { p with
    tracker := { p.tracker with
      queue := es ++ { e with stage := .dropping, deadline := some ⟨.time, d⟩, destination := some x } :: fs, gate := x }
    sup := { p.sup with pocketWait := false } }
  (e.isVoid = true ∨ p.bookSpoiled e.book = true →
    exec .exitSensor s = .next (s.withPart (drops .reject).follow)) ∧
  (∀ b, e.isVoid = false → p.book? e.book = some b → b.state ≠ .spoiled → e.ownFault = false →
    (∀ k, b.pocket = some k → exec .exitSensor s = .next (s.withPart (drops k.dest).follow)) ∧
    (∀ k, b.pocket = none → p.freePocket = some k →
      ∃ q : Part, exec .exitSensor s = .next (s.withPart q.follow) ∧ q.pocket k = ⟨.gathering, some e.book⟩ ∧
        (∀ j, j ≠ k → q.pocket j = p.pocket j) ∧ q.books = { p.books with
          records := p.books.records.map fun r => if r.number = e.book then { r with pocket := some k } else r } ∧
        q = { drops k.dest with books := q.books, closer := q.closer }) ∧
    (b.pocket = none → p.freePocket = none → exec .exitSensor s = .next (s.withPart
      { p with
        sup := { p.sup with line := .hold, pocketWait := true }
        tracker := { p.tracker with queue := es ++ { e with stage := .atGate, deadline := none } :: fs } }.follow))) ∧
  (∀ b, e.isVoid = false → p.book? e.book = some b → b.state ≠ .spoiled → e.ownFault = true →
    let q := p.spoil e.book .sheetFault false
    exec .exitSensor s = .next (s.withPart
      { q with tracker := (drops .reject).tracker, sup := (drops .reject).sup }.follow) ∧
    q = { p with books := q.books, closer := q.closer } ∧
    (b.state = .opened ∨ b.state = .filled →
      ∃ c, q.book? e.book = some c ∧ c.spoilReason = some .sheetFault ∧ c.expected = b.expected))

/-- LANDING outside HALT on the destination of the oldest DROPPING entry: the entry becomes DONE, GATHERED or
DIVERTED, its pattern's use count falls and its book's count rises. A FILLED book that is then all gathered becomes
READY: its pocket goes from GATHERING to FULL at the tail of the request list, and its loop count is staged unless the
closer is IDLE with nothing else in the list, or a count is staged already. Nothing else changes; what follows in the
same event is `follow`. That an entry whose book has no record, which no run reaches, counts into no book is log 20's
choice. -/
def Obligations.LandingCompletes : Prop :=
  ∀ (s : State) (p : Part) (es fs : List Entry) (e : Entry) (l : LandingSensor), p = s.toPart.settle →
  p.sup.line ≠ .halt → p.tracker.queue = es ++ e :: fs →
  (∀ x ∈ es, x.stage ≠ .dropping) → e.stage = .dropping → e.destination = some (Part.landingDest l) →
  let o : Outcome := if l = .reject then .diverted else .gathered
  ∃ q : Part, exec (.landing l) s = .next (s.withPart q.follow) ∧
    q = { p with tracker := q.tracker, patterns := q.patterns, books := q.books, closer := q.closer } ∧
    q.tracker = { p.tracker with
      queue := es ++ { e with stage := .done, outcome := some o, deadline := none } :: fs } ∧
    (e.isVoid = true → q.patterns = p.patterns ∧ q.books = p.books ∧ q.closer = p.closer) ∧
    (e.isVoid = false →
      (∀ n, q.pattern? n = p.pattern? n ∧ q.useCount n = p.useCount n - if n = e.pattern then 1 else 0) ∧
      (p.book? e.book = none → q.books = p.books ∧ q.closer = p.closer) ∧
      ∀ b, p.book? e.book = some b →
        let c : Book := { b with
          gathered := b.gathered + (if l = .reject then 0 else 1)
          diverted := b.diverted + (if l = .reject then 1 else 0) }
        let full : Prop := l ≠ .reject ∧ b.state = .filled ∧ b.gathered + 1 = b.expected
        q.books = { p.books with records := q.books.records } ∧ (∀ m, m ≠ e.book → q.book? m = p.book? m) ∧
        (¬full → q.book? e.book = some c ∧ q.closer = p.closer) ∧
        (full → q.book? e.book = some { c with state := .ready, generation := b.generation + 1 } ∧
          ∀ k, b.pocket = some k →
            q.pocket k = { p.pocket k with state := .full } ∧ (∀ j, j ≠ k → q.pocket j = p.pocket j) ∧
            q.closer = { p.closer with
              pocketA := q.closer.pocketA, pocketB := q.closer.pocketB, requests := p.closer.requests ++ [k]
              staged := if p.closer.state = .idle ∧ p.closer.requests = [] then p.closer.staged
                else some (p.closer.staged.getD ⟨b.loopCount, b.number, b.id⟩) }))

/-- The treatment of a sheet: face DOWN mirrors pins and spindles, a BOARD has no pins and no notch, the notch needs
the pattern's and the book's yes and is never mirrored. A mirrored list has as many items and stands in ascending
order. The required set of the NOT_REQUIRED check is the pins with the notch, as coil 49, behind them; the die is
compared only when that set is not empty. Faulted pins come from the engaged set and faulted spindles from the cycle,
which setup fills with the resolved lists. `strikeSetup` and `drillSetup`, which the register rows and a pending setup
take, in full, on any part with the sheet at the station: the VOID entry, the SPOILED book, then an empty set releases
the sheet NOT_REQUIRED whatever the station set, the die and the coils are; then the other checks in R69's and R88's
order, and the cycle. -/
def Obligations.TreatmentResolves : Prop :=
  (∀ (d : PatternDef) (h : Bool),
    (∀ role, (resolve d role 1 h).spindles = d.drill) ∧
    (∀ role i, i ∈ (resolve d role 2 h).spindles ↔ i.mirror ∈ d.drill) ∧
    (∀ role, ((resolve d role 2 h).spindles.map Idx4.toNat).Pairwise (· < ·)) ∧
    (∀ role, d.drill.Nodup → (resolve d role 2 h).spindles.length = d.drill.length) ∧
    (∀ i : Idx4, i.mirror.toNat = 5 - i.toNat) ∧
    (∀ face, (resolve d 3 face h).required = [] ∧ (resolve d 3 face h).pins = [] ∧ (resolve d 3 face h).notch = false ∧
      (resolve d 3 face h).die = none) ∧
    (∀ role ∈ [1, 2], (resolve d role 1 h).pins = d.pins ∧ (resolve d role 1 h).notch = (d.notch && h) ∧
      (resolve d role 2 h).notch = (d.notch && h)) ∧
    (∀ role ∈ [1, 2], (resolve d role 2 h).pins.length = d.pins.length) ∧
    (∀ role ∈ [1, 2], (∀ n ∈ d.pins, 1 ≤ n ∧ n ≤ 48) →
      ∀ n, 1 ≤ n → n ≤ 48 → (n ∈ (resolve d role 2 h).pins ↔ 49 - n ∈ d.pins)) ∧
    (∀ role ∈ [1, 2], (∀ n ∈ d.pins, 1 ≤ n ∧ n ≤ 48) → d.pins.Pairwise (· < ·) →
      (resolve d role 2 h).pins.Pairwise (· < ·)) ∧
    (∀ role face, (resolve d role face h).required =
      (resolve d role face h).pins ++ if (resolve d role face h).notch then [49] else []) ∧
    (∀ role face, (resolve d role face h).required = [] → (resolve d role face h).die = none) ∧
    (∀ role face, (resolve d role face h).required ≠ [] → (resolve d role face h).die = some d.die)) ∧
  (∀ (p : Part) (c : Nat), ∀ n ∈ (p.overCurrent c).punch.faulted, n ∈ p.punch.faulted ∨ n ∈ p.punch.engaged) ∧
  (∀ (p : Part) (i : Idx4), i ∈ p.drill.cycle → ∀ j ∈ (p.plungeFails i).drill.faulted, j ∈ p.drill.faulted ∨ j = i) ∧
  (∀ p : Part, ∀ j ∈ p.drillGuardInIdle.drill.faulted, j ∈ p.drill.faulted ∨ j ∈ p.drill.cycle) ∧
  ∀ (p : Part) (e : Entry) (es fs : List Entry), p.tracker.queue = es ++ e :: fs →
  let t := p.treatment e
  let d := (p.pattern? e.pattern).getD .blank
  let sound : Prop := e.isVoid = false ∧ p.bookSpoiled e.book = false
  let skips (q : Part) (left : SkipReason → Part) : Prop :=
    (e.isVoid = true → q = left .voidEntry) ∧ (e.isVoid = false → p.bookSpoiled e.book = true → q = left .bookSpoiled)
  let past (w : Nat) : Option Deadline :=
    some ⟨.position, p.timebase.position + BitVec.ofNat 32 (w * p.timebase.settings.scale)⟩
  let queue (x : Entry) : Part := { p with tracker := { p.tracker with queue := es ++ x :: fs } }
  (sound → t = resolve d e.role e.face ((p.book? e.book).elim false Book.hanger)) ∧
  ((∀ x ∈ es, x.stage ≠ .atPunch) → e.stage = .atPunch →
    let released (r : PunchResult) (w : Option SkipReason) (l : List Nat) : Part := queue { e with
      stage := .toDrill, deadline := past p.timebase.settings.mid, punchResult := some r, punchSkip := w, faultedPins := l }
    let bad := t.required.filter fun c => p.coilHealth c != .ok
    skips p.strikeSetup (fun w => released .skipped (some w) []) ∧
    (sound → t.required = [] → p.strikeSetup = released .notRequired none []) ∧
    (sound → t.required ≠ [] → p.effective .punch = false → p.strikeSetup = released .skipped (some .stationOff) []) ∧
    (sound → t.required ≠ [] → p.effective .punch = true → p.strikeSetup =
      if dieMatches t.die p.punch.dieLines = false then released .skipped (some .dieMismatch) []
      else if bad ≠ [] then released .skipped (some .pinFault) bad
      else { p with punch := { p.punch with
        state := .engage, treatment := some t, engaged := t.required, faulted := [], brokenOff := false, held := true
        deadline := none } })) ∧
  ((∀ x ∈ es, x.stage ≠ .atDrill) → e.stage = .atDrill →
    let left (r : DrillResult) (w : Option SkipReason) : Part := queue { e with
      stage := .toGate, deadline := past p.timebase.settings.runOut, drillResult := some r, drillSkip := w
      faultedSpindles := [] }
    let l := t.spindles
    let due (w : Nat) : Option Count := some (p.timebase.millis + BitVec.ofNat 32 w)
    let profile (i : Idx4) := p.drill.profiles.get (p.drill.map.get i)
    let passes (i : Idx4) := if (profile i).mode = .peck then (profile i).peckCount else 1
    let copied (i : Idx4) : Spindle := { p.spindle i with
      copy := some ⟨p.drill.map.get i, profile i⟩, passes := passes i, timedOut := false }
    let through (i : Idx4) : Prop :=
      (p.spindle i).downLevel = true ∧ (profile i).dwell = 0 ∧ (p.spindle i).upLevel = true
    let starts (i : Idx4) (x : Spindle) : Prop :=
      ((p.spindle i).downLevel = false → x = { copied i with
        state := .plunge, deadline := due (profile i).plungeWindow }) ∧
      ((p.spindle i).downLevel = true → 0 < (profile i).dwell → x = { copied i with
        state := .dwell, deadline := due (profile i).dwell }) ∧
      ((p.spindle i).downLevel = true → (profile i).dwell = 0 → (p.spindle i).upLevel = false →
        x = { copied i with state := .retract, deadline := due (profile i).retractWindow }) ∧
      (through i → x = { copied i with state := .done, passes := 0, deadline := none })
    skips p.drillSetup (fun w => left .skipped (some w)) ∧
    (sound → l = [] → p.drillSetup = left .notRequired none) ∧
    (sound → l ≠ [] → p.effective .drill = false → p.drillSetup = left .skipped (some .stationOff)) ∧
    (sound → l ≠ [] → p.effective .drill = true → (∀ i ∈ l, 1 ≤ passes i) → (∀ i, (p.spindle i).state = .idle) →
      let q := p.drillSetup
      (∀ j, j ∉ l → q.spindle j = p.spindle j) ∧
      ((∃ i ∈ l, ¬through i) → (∀ i ∈ l, starts i (q.spindle i)) ∧ q = { p with drill := { p.drill with
        spindles := q.drill.spindles, cycle := l, held := true, faulted := [] } }) ∧
      ((∀ i ∈ l, through i) → (∀ i ∈ l, q.spindle i = (p.spindle i).toIdle) ∧ q = { left .drilled none with
        drill := { p.drill with spindles := q.drill.spindles, cycle := [], held := false, faulted := [] } })))

/-! ### Punch -/

/-- LATCH_CHECK_REPORT in ENGAGE: with no engaged coil in the report the ram goes down under the ram window; otherwise
every engaged coil that the report names is marked OPEN or SHORT, the held sheet is released SKIPPED with PIN_FAULT and
those coils, and the ram is not moved. In any other state: nothing. That the report lists the coils that are not OK, and
that coils which are not engaged are dropped from it, is log 19's reading; that a report counts for the engagement that
stands when it arrives is log 30's choice. -/
def Obligations.LatchCheckCompletes : Prop :=
  ∀ (s : State) (p : Part) (l : List (Nat × CoilFault)), p = s.toPart.settle →
  l.Pairwise (fun a b => a.1 < b.1) → (∀ r ∈ l, 1 ≤ r.1 ∧ r.1 ≤ 49) →
  let named (c : Nat) : Bool := l.any fun r => r.1 == c
  (p.punch.state = .engage → (∀ c ∈ p.punch.engaged, named c = false) → exec (.latchCheckReport l) s = .next (s.withPart
    { p with punch := { p.punch with state := .strike, deadline := some (p.timebase.millis + BitVec.ofNat 32 p.punch.ramWindow) } })) ∧
  (p.punch.state = .engage → (∃ c ∈ p.punch.engaged, named c = true) →
    ∃ q : Part, exec (.latchCheckReport l) s = .next (s.withPart q) ∧
      q = { p with
        tracker := q.tracker
        punch := { p.punch with
          state := .idle, treatment := none, engaged := [], faulted := [], brokenOff := false, held := false
          deadline := none, health := q.punch.health } } ∧
      (∀ c ∈ p.punch.engaged, ((c, .openCoil) ∈ l → q.coilHealth c = .openCoil) ∧
        ((c, .shortCoil) ∈ l → q.coilHealth c = .shortCoil)) ∧
      (∀ c, 1 ≤ c → c ∉ p.punch.engaged ∨ named c = false → q.coilHealth c = p.coilHealth c) ∧
      (p.punch.held = false → q.tracker = p.tracker) ∧
      (∀ es fs e, p.punch.held = true → p.tracker.queue = es ++ e :: fs → (∀ x ∈ es, x.stage ≠ .atPunch) →
        e.stage = .atPunch → q.tracker = { p.tracker with queue := es ++ { e with
          stage := .toDrill, punchResult := some .skipped, punchSkip := some .pinFault
          faultedPins := p.punch.engaged.filter named
          deadline := some ⟨.position, p.timebase.position +
            BitVec.ofNat 32 (p.timebase.settings.mid * p.timebase.settings.scale)⟩ } :: fs })) ∧
  (p.punch.state ≠ .engage → exec (.latchCheckReport l) s = .next (s.withPart p))

/-- OVER_CURRENT marks its coil SHORT in every state; in a strike an engaged coil is dropped and named once; in ENGAGE
the engagement ends and the held sheet is released SKIPPED with PIN_FAULT, naming the coil; a coil that is not engaged
changes the map alone. -/
def Obligations.OverCurrentCompletes : Prop :=
  ∀ (s : State) (p : Part) (c : Nat), p = s.toPart.settle → 1 ≤ c → c ≤ 49 →
  ∃ q : Part, exec (.overCurrent c) s = .next (s.withPart q) ∧ q.coilHealth c = .shortCoil ∧
    (∀ k, k ≠ c → 1 ≤ k → q.coilHealth k = p.coilHealth k) ∧
    q = { p with punch := q.punch, tracker := q.tracker } ∧
    (c ∉ p.punch.engaged → q = { p with punch := { p.punch with health := q.punch.health } }) ∧
    (c ∈ p.punch.engaged → p.punch.state = .strike ∨ p.punch.state = .ramReturn →
      q.tracker = p.tracker ∧ q.punch = { p.punch with
        health := q.punch.health, engaged := p.punch.engaged.filter (· != c), faulted := q.punch.faulted } ∧
      (∀ k, k ∈ q.punch.faulted ↔ k = c ∨ k ∈ p.punch.faulted) ∧
      (p.punch.faulted.Pairwise (· < ·) → q.punch.faulted.Pairwise (· < ·))) ∧
    (c ∈ p.punch.engaged → p.punch.state = .engage →
      q.punch = { p.punch with
        state := .idle, treatment := none, engaged := [], faulted := [], brokenOff := false, held := false
        deadline := none, health := q.punch.health } ∧
      (p.punch.held = false → q.tracker = p.tracker) ∧
      (∀ es fs e, p.punch.held = true → p.tracker.queue = es ++ e :: fs → (∀ x ∈ es, x.stage ≠ .atPunch) →
        e.stage = .atPunch → q.tracker = { p.tracker with queue := es ++ { e with
          stage := .toDrill, punchResult := some .skipped, punchSkip := some .pinFault, faultedPins := [c]
          deadline := some ⟨.position, p.timebase.position +
            BitVec.ofNat 32 (p.timebase.settings.mid * p.timebase.settings.scale)⟩ } :: fs }))

/-- RAM_DOWN in STRIKE enters RETURN under the return window. RAM_UP in RETURN ends the cycle: latches released, the
held entry released STRUCK or PARTIAL to TO_DRILL, the controller IDLE; a setup that was pending is taken then, as
strike setup. Where ram-up shows already, RAM_DOWN in STRIKE ends the cycle in the same way in the same event. -/
def Obligations.RamEventsComplete : Prop :=
  ∀ (s : State) (p : Part), p = s.toPart.settle →
  let idle : Punch := { p.punch with
    state := .idle, treatment := none, engaged := [], faulted := [], brokenOff := false, held := false
    deadline := none, ramUpLevel := true }
  (p.punch.state = .strike → p.punch.ramUpLevel = false → exec .ramDown s = .next (s.withPart
    { p with punch := { p.punch with
        state := .ramReturn
        deadline := some (p.timebase.millis + BitVec.ofNat 32 p.punch.returnWindow) } })) ∧
  (p.punch.state ≠ .strike → exec .ramDown s = .next (s.withPart p)) ∧
  (∀ c, (c = .ramUp ∧ p.punch.state = .ramReturn) ∨
      (c = .ramDown ∧ p.punch.state = .strike ∧ p.punch.ramUpLevel = true) →
    (∀ es fs e, p.punch.held = true → p.punch.pendingSetup = false →
      p.tracker.queue = es ++ e :: fs → (∀ x ∈ es, x.stage ≠ .atPunch) → e.stage = .atPunch →
      exec c s = .next (s.withPart { p with
        punch := idle
        tracker := { p.tracker with queue := es ++
          { e with stage := .toDrill, punchSkip := none, faultedPins := p.punch.faulted,
                   punchResult := some (if p.punch.faulted = [] ∧ p.punch.brokenOff = false then .struck else .partStruck),
                   deadline := some ⟨.position, p.timebase.position +
                     BitVec.ofNat 32 (p.timebase.settings.mid * p.timebase.settings.scale)⟩ } :: fs } })) ∧
    (p.punch.held = false → p.punch.pendingSetup = false → exec c s = .next (s.withPart { p with punch := idle })) ∧
    (p.punch.held = false → p.punch.pendingSetup = true →
      exec c s = .next (s.withPart { p with punch := { idle with pendingSetup := false } }.strikeSetup))) ∧
  (p.punch.state ≠ .ramReturn → exec .ramUp s = .next (s.withPart
    { p with punch := { p.punch with ramUpLevel := true } }))

/-- RAM_STALL, RAM_STUCK and DRILL_STUCK, each when its window has run out, in every line state; the cause is raised by
the model's one `raise`, whose effects HaltEntryEffects states, with the book of the held entry, where it is not VOID,
as the book concerned. Outside HALT the line halts on the cause: a stalled ram is withdrawn, to IDLE where ram-up shows
already, a stuck one puts the controller in FAULT, a stuck spindle goes to FAULT. In HALT a stuck ram or spindle goes to
the secondary record, or sets the more flag. The end test of the drill cycle follows a stuck spindle: outside HALT the
halt has made it already, in HALT it is `afterSpindle`, whose effects DrillCycleEnds states. That a stall is raised
outside HALT alone is log 14's reading, and that a spindle in FAULT leaves the faulted list is log 28's. -/
def Obligations.StuckAndStalledComplete : Prop :=
  ∀ (s : State) (i : Idx4) (d : Count), let p := s.toPart
  passed d p.timebase.millis = true →
  let concerned (held : Bool) (st : Stage) : Option Nat :=
    if held then (p.oldest st).bind fun e => if e.isVoid then none else some e.book else none
  (p.punch.deadline = some d →
    (p.punch.state = .strike → p.sup.line ≠ .halt →
      let q := p.raise .ramStall (concerned p.punch.held .atPunch)
      exec .ramStall s = .next (s.withPart q) ∧ q.sup.line = .halt ∧
        q.sup.haltRecord.map HaltRecord.cause = some .ramStall ∧ q.punch.held = false ∧
        q.punch.state = if p.punch.ramUpLevel then .idle else .ramReturn) ∧
    (p.punch.state = .ramReturn →
      let faulted : Part := { p with punch := { p.punch with
        state := .fault, treatment := none, engaged := [], faulted := [], brokenOff := false, held := false
        deadline := none } }
      let q := faulted.raise .ramStuck (concerned p.punch.held .atPunch)
      exec .ramStuck s = .next (s.withPart q) ∧ q.punch.state = .fault ∧ q.punch.engaged = [] ∧ q.sup.line = .halt ∧
        (p.sup.line ≠ .halt → q.sup.haltRecord.map HaltRecord.cause = some .ramStuck) ∧
        (p.sup.line = .halt → q.tracker = p.tracker ∧
          (p.sup.secondary = none →
            q.sup = { p.sup with secondary := some ⟨.ramStuck, concerned p.punch.held .atPunch⟩ }) ∧
          (p.sup.secondary ≠ none → q.sup = { p.sup with more := true })))) ∧
  ((p.spindle i).state = .retract → (p.spindle i).deadline = some d →
    let faulted : Part := { p with drill := { p.drill with
      spindles := p.drill.spindles.set i (p.spindle i).toFault, faulted := p.drill.faulted.filter (· != i) } }
    let q := faulted.raise (.drillStuck i) (concerned p.drill.held .atDrill)
    exec (.drillStuck i) s = .next (s.withPart q.afterSpindle) ∧
      (q.afterSpindle.spindle i).state = .fault ∧ (q.afterSpindle.spindle i).copy = none ∧ q.sup.line = .halt ∧
      q.afterSpindle.sup = q.sup ∧
      (p.sup.line ≠ .halt → q.afterSpindle = q ∧ q.sup.haltRecord.map HaltRecord.cause = some (.drillStuck i)) ∧
      (p.sup.line = .halt → p.sup.secondary = none →
        q.sup = { p.sup with secondary := some ⟨.drillStuck i, concerned p.drill.held .atDrill⟩ }) ∧
      (p.sup.line = .halt → p.sup.secondary ≠ none → q.sup = { p.sup with more := true }))

/-! ### Drill -/

/-- The spindle events of a running cycle: down to DWELL (or on to RETRACT under a dwell of 0), dwell out to RETRACT,
plunge window out to RETRACT timed out with no pass left, up to the next PLUNGE while passes remain, and to DONE after
the last one. A level that shows already is taken in the same event, exactly as if its event had arrived: a pass ends
where spindle-up shows as RETRACT is entered, the next one goes on to DWELL where spindle-down shows, and with both of
them and a dwell of 0 every pass left ends at once. The end test of the cycle follows in the same event: nothing while
another cycle spindle is at work, and else what DrillCycleEnds states of `afterSpindle`. -/
def Obligations.SpindleEventsComplete : Prop :=
  ∀ (s : State) (i : Idx4),
  let placed (p : Part) (x : Spindle) : Part :=
    { p with drill := { p.drill with spindles := p.drill.spindles.set i x } }
  let sets (c : Instr) (p : Part) (x : Spindle) : Prop := exec c s = .next (s.withPart (placed p x))
  let goes (c : Instr) (p : Part) (x : Spindle) : Prop :=
    exec c s = .next (s.withPart (placed p x).afterSpindle) ∧
    ((∃ j ∈ p.drill.cycle, ((placed p x).spindle j).working = true) → sets c p x)
  let due (p : Part) (w : Nat) : Option Count := some (p.timebase.millis + BitVec.ofNat 32 w)
  let plunges (p : Part) (x : Spindle) : Spindle := { x with state := .plunge, deadline := due p x.profile.plungeWindow }
  let dwells (p : Part) (x : Spindle) : Spindle := { x with state := .dwell, deadline := due p x.profile.dwell }
  let retracts (p : Part) (x : Spindle) : Spindle :=
    { x with state := .retract, deadline := due p x.profile.retractWindow }
  let rests (x : Spindle) : Spindle := { x with state := .done, passes := 0, deadline := none }
  let passEnds (c : Instr) (p : Part) (x : Spindle) : Prop :=
    let next : Spindle := { x with passes := x.passes - 1 }
    (x.passes ≤ 1 → goes c p (rests x)) ∧
    (2 ≤ x.passes → x.downLevel = false → goes c p (plunges p next)) ∧
    (2 ≤ x.passes → x.downLevel = true → 0 < x.profile.dwell → goes c p (dwells p next)) ∧
    (2 ≤ x.passes → x.downLevel = true → x.profile.dwell = 0 → goes c p (rests x))
  (∀ p, p = s.toPart.settle →
    let x := p.spindle i
    let down : Spindle := { x with downLevel := true }
    let up : Spindle := { x with upLevel := true }
    (x.state = .plunge → 0 < x.profile.dwell → goes (.spindleDown i) p (dwells p down)) ∧
    (x.state = .plunge → x.profile.dwell = 0 → x.upLevel = false → goes (.spindleDown i) p (retracts p down)) ∧
    (x.state = .plunge → x.profile.dwell = 0 → x.upLevel = true → passEnds (.spindleDown i) p down) ∧
    (x.state ≠ .plunge → sets (.spindleDown i) p down) ∧
    (x.state = .retract → passEnds (.spindleUp i) p up) ∧
    (x.state ≠ .retract → sets (.spindleUp i) p up)) ∧
  let p := s.toPart
  let x := p.spindle i
  ∀ d, x.deadline = some d → passed d p.timebase.millis = true →
    (x.state = .dwell → x.upLevel = false → goes (.dwellRunsOut i) p (retracts p x)) ∧
    (x.state = .dwell → x.upLevel = true → passEnds (.dwellRunsOut i) p x) ∧
    (x.state = .plunge → ∃ l : List Idx4, (∀ j, j ∈ l ↔ j = i ∨ j ∈ p.drill.faulted) ∧
      (l.map Idx4.toNat).Pairwise (· < ·) ∧
      let marked : Part := { p with drill := { p.drill with faulted := l } }
      let y : Spindle := { x with passes := 0, timedOut := true }
      (x.upLevel = false → goes (.plungeWindowRunsOut i) marked (retracts p y)) ∧
      (x.upLevel = true → goes (.plungeWindowRunsOut i) marked (rests y)))

/-- What `afterSpindle`, the end test behind every spindle event, does to any part: with a cycle spindle at work, or no
cycle, it ends none; else the cycle record is emptied, every DONE spindle is IDLE and the held entry is released DRILLED
or PARTIAL to TO_GATE. A pending setup is then taken once no spindle is busy, as drill setup, and stays pending while
one is. The same is said in full of the last spindle of a cycle coming up, every other one being DONE or in FAULT. -/
def Obligations.DrillCycleEnds : Prop :=
  (∀ r : Part,
    let ends : Bool := r.drill.cycle != [] && r.drill.cycle.all fun j =>
      (r.spindle j).state != .plunge && (r.spindle j).state != .dwell && (r.spindle j).state != .retract
    ∃ q : Part,
      r.afterSpindle = (if q.drill.pendingSetup = true ∧ q.drillBusy = false then
        { q with drill := { q.drill with pendingSetup := false } }.drillSetup else q) ∧
      (ends = false → q = r) ∧
      (ends = true →
        (∀ j, q.spindle j = if (r.spindle j).state = .done then (r.spindle j).toIdle else r.spindle j) ∧
        (r.drill.held = false → q.tracker = r.tracker) ∧
        (∀ es fs e, r.drill.held = true → r.tracker.queue = es ++ e :: fs → (∀ x ∈ es, x.stage ≠ .atDrill) →
          e.stage = .atDrill → q.tracker = { r.tracker with queue := es ++ { e with
            stage := .toGate, drillSkip := none, faultedSpindles := r.drill.faulted
            drillResult := some (if r.drill.faulted = [] then .drilled else .partDrilled)
            deadline := some ⟨.position, r.timebase.position +
              BitVec.ofNat 32 (r.timebase.settings.runOut * r.timebase.settings.scale)⟩ } :: fs }) ∧
        q = { r with
          tracker := q.tracker
          drill := { r.drill with spindles := q.drill.spindles, cycle := [], held := false, faulted := [] } })) ∧
  ∀ (s : State) (p : Part) (i : Idx4), p = s.toPart.settle → i ∈ p.drill.cycle →
  (∀ j ∈ p.drill.cycle, j ≠ i → (p.spindle j).state = .done ∨ (p.spindle j).state = .fault) →
  (p.spindle i).state = .retract → (p.spindle i).passes ≤ 1 →
  let rested (j : Idx4) : Spindle :=
    if j = i then { (p.spindle i).toIdle with upLevel := true }
    else if (p.spindle j).state = .done then (p.spindle j).toIdle
    else p.spindle j
  let emptied (pending : Bool) : Drill := { p.drill with
    spindles := ⟨rested .i1, rested .i2, rested .i3, rested .i4⟩, cycle := [], held := false, faulted := []
    pendingSetup := pending }
  (∀ es fs e, p.drill.held = true → p.drill.pendingSetup = false → p.tracker.queue = es ++ e :: fs →
    (∀ x ∈ es, x.stage ≠ .atDrill) → e.stage = .atDrill → exec (.spindleUp i) s = .next (s.withPart { p with
      drill := emptied false
      tracker := { p.tracker with queue := es ++
        { e with stage := .toGate, drillSkip := none, faultedSpindles := p.drill.faulted,
                 drillResult := some (if p.drill.faulted = [] then .drilled else .partDrilled),
                 deadline := some ⟨.position, p.timebase.position +
                   BitVec.ofNat 32 (p.timebase.settings.runOut * p.timebase.settings.scale)⟩ } :: fs } })) ∧
  (p.drill.held = false →
    (p.drill.pendingSetup = false → exec (.spindleUp i) s = .next (s.withPart { p with drill := emptied false })) ∧
    (p.drill.pendingSetup = true → (∀ j, (rested j).state = .idle) →
      exec (.spindleUp i) s = .next (s.withPart { p with drill := emptied false }.drillSetup)) ∧
    (p.drill.pendingSetup = true → (∃ j, (rested j).state ≠ .idle) →
      exec (.spindleUp i) s = .next (s.withPart { p with drill := emptied true })))

/-! ### Closer -/

/-- The steps of the bind cycle: clamp-done, hanger-in, loop pulse, cut-done, close-done, each in its state; in any
other state each changes nothing. -/
def Obligations.CloserStepsComplete : Prop :=
  ∀ (s : State) (p : Part), p = s.toPart.settle →
  let c := p.closer
  let goes (i : Instr) (x : Closer) : Prop := exec i s = .next (s.withPart { p with closer := x })
  let due (w : Nat) : Option Count := some (p.timebase.millis + BitVec.ofNat 32 w)
  (c.state = .clamp → p.currentHanger = false →
    goes .clampDone { c with state := .feed, deadline := due c.windows.loop }) ∧
  (c.state = .clamp → p.currentHanger = true → c.hangerEmpty = false →
    goes .clampDone { c with state := .hanger, deadline := due c.windows.hanger }) ∧
  (c.state = .hanger → goes .hangerIn { c with state := .feed, deadline := due c.windows.loop }) ∧
  (∀ a, c.state = .feed → c.active = some a → 2 ≤ a.value → goes .loopPulse
    { c with active := some { a with value := a.value - 1 }, deadline := due c.windows.loop }) ∧
  (∀ a, c.state = .feed → c.active = some a → a.value = 1 → goes .loopPulse
    { c with active := some { a with value := 0 }, state := .cut, deadline := due c.windows.cut }) ∧
  (∀ g, c.state = .cut → c.staged = some g → goes .cutDone
    { c with active := some ⟨g.value, g.book, g.id, .atCut⟩, staged := none, state := .close,
             deadline := due c.windows.close }) ∧
  (c.state = .cut → c.staged = none → goes .cutDone { c with state := .close, deadline := due c.windows.close }) ∧
  (c.state = .close → goes .closeDone { c with state := .eject, deadline := due c.windows.eject }) ∧
  (c.state ≠ .clamp → goes .clampDone c) ∧ (c.state ≠ .hanger → goes .hangerIn c) ∧
  (c.state ≠ .feed → goes .loopPulse c) ∧ (c.state ≠ .cut → goes .cutDone c) ∧
  (c.state ≠ .close → goes .closeDone c)

/-- EJECT_DONE in EJECT ends the book BOUND and DUMP_DONE in DUMP moves its gathered leaves to diverted; each frees the
pocket and leaves the closer IDLE. In any other state each changes nothing. What follows in the same event, here and
wherever a statement writes `follow`, is said for every part: in HOLD the decision of a sheet that waits at the gate is
retaken, and it is diverted, drops to its book's pocket, is granted the first FREE pocket, or goes on waiting; then the
closer tests its take conditions, and takes the head of the request list, a FULL pocket to bind or a DUMP_WAIT pocket
that is settled to dump, or takes nothing. That the decision comes before the take is log 23's reading. That a sheet
which is not VOID and whose book has no record is diverted too, a state that no run reaches, is log 20's choice. -/
def Obligations.CloserCyclesEnd : Prop :=
  (∀ (s : State) (p : Part) (k : PocketId) (b : Book), p = s.toPart.settle →
    (p.closer.state ≠ .eject → exec .ejectDone s = .next (s.withPart p)) ∧
    (p.closer.state ≠ .dump → exec .dumpDone s = .next (s.withPart p)) ∧
    (p.closer.current = some ⟨k, b.number⟩ → p.book? b.number = some b →
      let idles (q : Part) (c : Book) (order : List Nat) : Prop :=
        q = { p with books := q.books, closer := q.closer } ∧
        q.closer = { p.closer with
          state := .idle, current := none, deadline := none, pocketA := q.closer.pocketA, pocketB := q.closer.pocketB } ∧
        q.pocket k = ⟨.free, none⟩ ∧ (∀ j, j ≠ k → q.pocket j = p.pocket j) ∧
        q.book? b.number = some c ∧ (∀ m, m ≠ b.number → q.book? m = p.book? m) ∧
        q.books.tailBook = p.books.tailBook ∧ q.books.endOrder = p.books.endOrder ++ order
      (p.closer.state = .eject → ∃ q : Part, exec .ejectDone s = .next (s.withPart q.follow) ∧
        idles q { b with state := .ended, generation := b.generation + 1, outcome := some .bound, pocket := none }
          [b.id]) ∧
      (p.closer.state = .dump →
        let c : Book := { b with diverted := b.diverted + b.gathered, gathered := 0, pocket := none }
        let ends : Bool := b.state == .spoiled && b.admitted == b.expected && b.inQueue == 0
        ∃ q : Part, exec .dumpDone s = .next (s.withPart q.follow) ∧
          idles q (if ends then { c with state := .ended, generation := b.generation + 1, outcome := some .spoiled } else c)
            (if ends then [b.id] else [])))) ∧
  ∀ p : Part,
    let due (w : Nat) : Count := p.timebase.millis + BitVec.ofNat 32 w
    let ready (r : Part) : Prop := r.closer.state = .idle ∧ (r.sup.line = .run ∨ r.sup.line = .hold) ∧
      r.stations.activation.closer = true ∧ r.stations.outOfService.closer = false ∧
      r.stations.guardsOpen.closer = false
    let falling (k : PocketId) (r : Part) : Prop :=
      ∃ e ∈ r.tracker.queue, e.stage = .dropping ∧ e.destination = some k.dest
    let takes (r t : Part) : Prop :=
      (¬ready r ∨ r.closer.requests = [] → t = r) ∧
      ∀ k ks, ready r → r.closer.requests = k :: ks →
        ((r.pocket k).state = .dumpWait → falling k r → t = r) ∧
        ∀ b, (r.pocket k).book = some b.number → r.book? b.number = some b →
          ((r.pocket k).state = .full →
            t = { r with books := t.books, closer := t.closer } ∧
            t.books = { r.books with records := r.books.records.map fun c =>
              if c.number = b.number then { c with state := .closing, generation := c.generation + 1 } else c } ∧
            t.pocket k = ⟨.binding, some b.number⟩ ∧ (∀ j, j ≠ k → t.pocket j = r.pocket j) ∧
            t.closer = { r.closer with
              state := .clamp, current := some ⟨k, b.number⟩, deadline := some (due r.closer.windows.clamp)
              pocketA := t.closer.pocketA, pocketB := t.closer.pocketB, requests := ks
              active := some ((r.closer.active.filter fun a => a.id == b.id).getD
                ⟨b.loopCount, b.number, b.id, .atTake⟩)
              staged := r.closer.staged.filter fun g => g.id != b.id }) ∧
          ((r.pocket k).state = .dumpWait → ¬falling k r →
            t = { r with closer := t.closer } ∧
            t.pocket k = ⟨.dumping, some b.number⟩ ∧ (∀ j, j ≠ k → t.pocket j = r.pocket j) ∧
            t.closer = { r.closer with
              state := .dump, current := some ⟨k, b.number⟩, deadline := some (due r.closer.windows.dump)
              pocketA := t.closer.pocketA, pocketB := t.closer.pocketB, requests := ks
              active := r.closer.active.filter fun a => a.id != b.id })
    (p.sup.line ≠ .hold ∨ p.sup.pocketWait = false ∨ p.hasStage .atGate = false → takes p p.follow) ∧
    ∀ es fs e, p.sup.line = .hold → p.sup.pocketWait = true → p.tracker.queue = es ++ e :: fs →
      (∀ x ∈ es, x.stage ≠ .atGate) → e.stage = .atGate →
      let drops (x : Dest) (r : Part) : Part := { r with
        tracker := { p.tracker with
          gate := x
          queue := es ++ { e with
            stage := .dropping, destination := some x
            deadline := some ⟨.time, due p.timebase.settings.drop⟩ } :: fs }
        sup := { p.sup with line := .run, pocketWait := false } }
      (e.isVoid = true ∨ p.book? e.book = none ∨ p.bookSpoiled e.book = true → takes (drops .reject p) p.follow) ∧
      ∀ b, e.isVoid = false → p.book? e.book = some b → b.state ≠ .spoiled →
        (e.ownFault = true → takes (drops .reject (p.spoil e.book .sheetFault false)) p.follow) ∧
        (e.ownFault = false →
          (∀ k, b.pocket = some k → takes (drops k.dest p) p.follow) ∧
          (∀ k, b.pocket = none → (p.pocket k).state = .free → (k = .b → (p.pocket .a).state ≠ .free) →
            ∃ q : Part, takes (drops k.dest q) p.follow ∧ q = { p with books := q.books, closer := q.closer } ∧
              q.books = { p.books with records := p.books.records.map fun r =>
                if r.number = e.book then { r with pocket := some k } else r } ∧
              q.pocket k = ⟨.gathering, some e.book⟩ ∧ (∀ j, j ≠ k → q.pocket j = p.pocket j) ∧
              q.closer = { p.closer with pocketA := q.closer.pocketA, pocketB := q.closer.pocketB }) ∧
          (b.pocket = none → (∀ k, (p.pocket k).state ≠ .free) → takes p p.follow))

/-- A closer step fails: the window of a bind state, the dump window, hanger-empty in HANGER, or a clamp-done that finds
the hanger-empty level showing on its way into HANGER; the closer is in FAULT with its record written and keeps its
pocket and its counts, a bound book is SPOILED, no halt is raised, and nothing else changes. -/
def Obligations.CloserFaultsComplete : Prop :=
  ∀ (s : State) (k : PocketId) (b : Book),
  let fails (i : Instr) (p : Part) (step : CloserState) (w : CloserCause) (empty : Bool) : Prop :=
    p.closer.current = some ⟨k, b.number⟩ → p.book? b.number = some b → b.state = .closing → b.pocket = some k →
    ∃ q : Part, exec i s = .next (s.withPart q) ∧
      q = { p with
        books := q.books
        closer := { p.closer with
          state := .fault, deadline := none, faultRecord := some ⟨step, b.number, k, w⟩, hangerEmpty := empty } } ∧
      q.book? b.number = some { b with
        state := .spoiled, spoilReason := some .closerFault, generation := b.generation + 1 } ∧
      (∀ m, m ≠ b.number → q.book? m = p.book? m) ∧ q.books.tailBook = p.books.tailBook ∧
      q.books.endOrder = p.books.endOrder
  (∀ d, Part.bindState s.closer.state = true → s.closer.deadline = some d → passed d s.timebase.millis = true →
    fails .closerWindowRunsOut s.toPart s.closer.state .window s.closer.hangerEmpty) ∧
  (∀ p, p = s.toPart.settle → p.closer.state = .hanger → fails .hangerEmpty p .hanger .hangerEmpty true) ∧
  (∀ p, p = s.toPart.settle → p.closer.state = .clamp → b.hanger = true → p.closer.hangerEmpty = true →
    fails .clampDone p .hanger .hangerEmpty true) ∧
  (∀ p, p = s.toPart.settle → p.closer.state ≠ .hanger → exec .hangerEmpty s = .next (s.withPart
    { p with closer := { p.closer with hangerEmpty := true } })) ∧
  (∀ d, s.closer.state = .dump → s.closer.deadline = some d → passed d s.timebase.millis = true →
    s.closer.current = some ⟨k, b.number⟩ → exec .dumpWindowRunsOut s = .next (s.withPart
      { s.toPart with closer := { s.closer with state := .fault, deadline := none,
                                                faultRecord := some ⟨.dump, b.number, k, .window⟩ } }))

/-! ### Timebase -/

/-- The ticks and the gap in every timebase state and line state, and the encoder edge: a transition that the edge
setting does not select is not counted. The halt of a line in RUN or HOLD is the model's one `raise`, whose effects
HaltEntryEffects states. -/
def Obligations.ClockEventsComplete : Prop :=
  ∀ (s : State) (p : Part), p = s.toPart.settle →
  let t := p.timebase
  let goes (i : Instr) (x : Timebase) : Prop := exec i s = .next (s.withPart { p with timebase := x })
  (t.state = .valid → goes (.referenceTick true) { t with millis := t.millis + 1 }) ∧
  (t.state = .starting ∨ t.state = .lost → t.runCount < 63 →
    goes (.referenceTick true) { t with runCount := t.runCount + 1 }) ∧
  (t.state = .starting ∨ t.state = .lost → t.runCount = 63 →
    goes (.referenceTick true) { t with runCount := 64, state := .valid }) ∧
  (∀ i ∈ [Instr.referenceTick false, .referenceGap],
    (t.state = .starting ∨ t.state = .lost → goes i { t with runCount := 0 }) ∧
    (t.state = .valid → p.sup.line = .idle → goes i { t with runCount := 0, state := .lost }) ∧
    (t.state = .valid → p.sup.line = .run ∨ p.sup.line = .hold →
      let q := ({ p with timebase := { t with runCount := 0, state := .lost } } : Part).raise .timebaseLost none
      exec i s = .next (s.withPart q) ∧ q.timebase = { t with runCount := 0, state := .lost } ∧
        q.sup.line = .halt ∧ q.sup.haltRecord.map HaltRecord.cause = some .timebaseLost) ∧
    (t.state = .valid → p.sup.line = .halt →
      let lost (u : Supervisor) : Prop := exec i s = .next (s.withPart
        { p with timebase := { t with runCount := 0, state := .lost }, sup := u })
      (p.sup.secondary = none → lost { p.sup with secondary := some ⟨.timebaseLost, none⟩ }) ∧
      (p.sup.secondary ≠ none → lost { p.sup with more := true }))) ∧
  (t.state = .unset → goes (.referenceTick true) t ∧ goes (.referenceTick false) t ∧ goes .referenceGap t) ∧
  (∀ x, t.settings.edge = .both ∨ (t.settings.edge = .rising ∧ x = .rising) ∨
      (t.settings.edge = .falling ∧ x = .falling) → t.state ≠ .unset → p.sup.line = .run →
    goes (.encoderEdge x) { t with position := t.position + 1 }) ∧
  (∀ x, t.state = .unset ∨ p.sup.line ≠ .run ∨ (t.settings.edge = .rising ∧ x = .falling) ∨
      (t.settings.edge = .falling ∧ x = .rising) → goes (.encoderEdge x) t)

/-- JAM when a segment's slot is passed outside HALT: the line halts on JAM with the segment and the slot's sequence, by
the model's one `raise`, whose effects HaltEntryEffects states, and the book concerned is that entry's where it is not
VOID. -/
def Obligations.JamCompletes : Prop :=
  ∀ (s : State) (seg : Segment) (d : Deadline) (e : Entry), let p := s.toPart
  p.slot seg = some (d, e) → passed d.count (p.countOf d.kind) = true → p.sup.line ≠ .halt →
  let q := p.raise (.jam seg e.sequence) (if e.isVoid then none else some e.book)
  exec (.jam seg) s = .next (s.withPart q) ∧ q.sup.line = .halt ∧
    (∃ r, q.sup.haltRecord = some r ∧ r.cause = .jam seg e.sequence ∧
      r.bookConcerned = (if e.isVoid then none else some e.book) ∧ r.position = p.timebase.position) ∧
    ∀ sg, q.slot sg = none

/-! ### Halts -/

/-- A cause raised outside HALT: the line enters HALT, the record describes it, every entry in transit is LOST and no
other entry changes, the expected sequence is undefined, the pocket-wait condition is withdrawn, the notice is pending,
and the link, the timebase and the station sets are not touched. The punch lets go of its entry and its pending setup:
in ENGAGE every latch is released and it is IDLE, in STRIKE the ram is withdrawn to RETURN, which ends at once where
ram-up shows. The drill does so too: a spindle in PLUNGE or DWELL is drawn up to RETRACT, where spindle-up shows its
pass ends at once in DONE, and one in RETRACT keeps on, with no pass left; a cycle with no spindle left in RETRACT ends.
The closer breaks its cycle off and is IDLE, stays in IDLE and FAULT, and loses its active count. Where pockets and
books agree, as every step leaves them: the lost counts rise by those entries, their books and the book of a bind broken
off are SPOILED with LINE_HALT, the pocket of a cycle broken off goes to the head of the request list, and the resume
point is the first record, in opening order, that the halt spoiled. In HALT the first cause fills the secondary record
and a further one sets the more flag; nothing else changes. -/
def Obligations.HaltEntryEffects : Prop :=
  ∀ (p : Part) (c : Cause) (w : Option Nat),
  let q := p.raise c w
  let hit (n : Nat) : Nat := p.tracker.queue.countP fun e =>
    e.stage != .waiting && e.stage != .done && !e.isVoid && e.book == n
  let stopped : Bool := Part.bindState p.closer.state || p.closer.state == .dump
  let broken : List Current := if stopped then p.closer.current.toList else []
  let struck (b : Book) : Bool :=
    b.state ∈ [BookState.opened, .filled, .ready, .closing] ∧
      (0 < hit b.number ∨ (b.state = .closing ∧ b.number ∈ broken.map Current.book))
  let counted (b : Book) : Book := { b with lost := b.lost + hit b.number }
  let after (b : Book) : Book :=
    if struck b then
      { counted b with state := .spoiled, spoilReason := some .lineHalt, generation := b.generation + 1 }
    else counted b
  let due (w : Nat) : Option Count := some (p.timebase.millis + BitVec.ofNat 32 w)
  let drawn (i : Idx4) : Spindle := let x := p.spindle i
    if x.state = .plunge ∨ x.state = .dwell then
      if x.upLevel = true then { x with state := .done, passes := 0, deadline := none }
      else { x with state := .retract, passes := 0, deadline := due x.profile.retractWindow }
    else if x.state = .retract then { x with passes := 0 }
    else x
  let cycleEnds : Bool := p.drill.cycle != [] && p.drill.cycle.all fun i => (drawn i).state != .retract
  (p.sup.line ≠ .halt →
    q.sup = { p.sup with
      line := .halt, pocketWait := false, secondary := none, more := false
      haltRecord := q.sup.haltRecord, notice := q.sup.notice } ∧
    q.tracker = { p.tracker with
      expected := none
      queue := p.tracker.queue.map fun e => if e.stage = .waiting ∨ e.stage = .done then e else e.finish .lost } ∧
    (∃ r n, q.sup.haltRecord = some r ∧ q.sup.notice = some n ∧ r.cause = c ∧ r.lineBefore = p.sup.line ∧
      r.headSequence = p.tracker.queue.head?.map Entry.sequence ∧ r.bookConcerned = w ∧
      r.position = p.timebase.position ∧ n.cause = c ∧ n.headSequence = r.headSequence ∧ n.bookConcerned = w ∧
      n.resumePoint = r.resumePoint ∧ n.superseded = p.sup.notice.isSome ∧
      (p.PocketsHeld → p.BooksSound →
        r.resumePoint = (p.books.records.find? struck).map fun b => ⟨b.number, b.openingSeq⟩)) ∧
    (p.punch.state = .idle ∨ p.punch.state = .ramReturn ∨ p.punch.state = .fault →
      q.punch = { p.punch with held := false, pendingSetup := false }) ∧
    (p.punch.state = .engage ∨ (p.punch.state = .strike ∧ p.punch.ramUpLevel = true) → q.punch = { p.punch with
      state := .idle, treatment := none, engaged := [], faulted := [], brokenOff := false, held := false
      pendingSetup := false, deadline := none }) ∧
    (p.punch.state = .strike → p.punch.ramUpLevel = false → q.punch = { p.punch with
      state := .ramReturn, deadline := due p.punch.returnWindow, held := false, pendingSetup := false }) ∧
    (∀ i, q.spindle i = if cycleEnds = true ∧ (drawn i).state = .done then (drawn i).toIdle else drawn i) ∧
    q.drill = { p.drill with
      spindles := q.drill.spindles, held := false, pendingSetup := false
      cycle := if cycleEnds then [] else p.drill.cycle, faulted := if cycleEnds then [] else p.drill.faulted } ∧
    q.closer = { p.closer with
      state := if stopped then .idle else p.closer.state, current := if stopped then none else p.closer.current
      deadline := if stopped then none else p.closer.deadline, active := none
      pocketA := q.closer.pocketA, pocketB := q.closer.pocketB, requests := q.closer.requests
      staged := q.closer.staged } ∧
    (∀ n < 64, q.pattern? n = p.pattern? n ∧ q.useCount n = p.useCount n - p.tracker.queue.countP fun e =>
      e.stage != .waiting && e.stage != .done && !e.isVoid && e.pattern == n) ∧
    q.books.tailBook = p.books.tailBook ∧
    (p.PocketsHeld → p.BooksSound →
      q.books.records = p.books.records.map after ∧ q.books.endOrder = p.books.endOrder ∧
      (∀ cur ∈ broken, q.pocket cur.pocket = ⟨.dumpWait, some cur.book⟩) ∧
      (∀ k b, p.book? b.number = some b → (p.pocket k).book = some b.number → k ∉ broken.map Current.pocket →
        q.pocket k = if struck b then { p.pocket k with state := .dumpWait } else p.pocket k) ∧
      (∀ k, (p.pocket k).book = none → q.pocket k = p.pocket k) ∧
      (∀ g, p.closer.staged = some g → q.closer.staged =
        if p.books.records.any (fun b => struck b && b.state != .closing && b.id == g.id) then none else some g) ∧
      (p.closer.staged = none → q.closer.staged = none) ∧
      ∃ l, q.closer.requests = broken.map Current.pocket ++ p.closer.requests ++ l ∧ l.Nodup ∧
        ∀ k, k ∈ l ↔ ∃ b ∈ p.books.records, b.pocket = some k ∧ (p.pocket k).state = .gathering ∧ struck b) ∧
    q.port = p.port ∧ q.cmd = p.cmd ∧ q.timebase = p.timebase ∧ q.stations = p.stations) ∧
  (p.sup.line = .halt →
    (p.sup.secondary = none → q = { p with sup := { p.sup with secondary := some ⟨c, w⟩ } }) ∧
    (p.sup.secondary ≠ none → q = { p with sup := { p.sup with more := true } }))

/-! ### Supervisor inputs -/

/-- GUARD_OPEN and GUARD_CLOSE: an activated station's guard opening halts a line in RUN or HOLD, by the model's one
`raise`, whose effects HaltEntryEffects states, on the part with that level set; in HALT it is the level alone; in IDLE
the controller of the station reacts. A punch in ENGAGE is IDLE and its sheet goes on SKIPPED with STATION_OFF; a stroke
is broken off to RETURN, and ends at once, its sheet PARTIAL, where ram-up shows; one in RETURN completes. The cycle
spindles in PLUNGE or DWELL are drawn up to RETRACT, or DONE where spindle-up shows, one in RETRACT keeps on, with no
pass left and the mark set, and each of them joins the faulted list, which a spindle in FAULT does not (log 28's
reading); a cycle with no spindle left in RETRACT ends in the event, and a pending setup is then taken. A closer cycle
fails, and in a bind its book is spoiled. Closing is the level, with what follows in the same event. -/
def Obligations.GuardEventsComplete : Prop :=
  ∀ (s : State) (p : Part) (x : Station), p = s.toPart.settle →
  (p.stations.guardsOpen.has x = false →
    let opened : Stations := { p.stations with guardsOpen := p.stations.guardsOpen.set true x }
    let due (w : Nat) : Option Count := some (p.timebase.millis + BitVec.ofNat 32 w)
    let travel (d : Nat) : Option Deadline :=
      some ⟨.position, p.timebase.position + BitVec.ofNat 32 (d * p.timebase.settings.scale)⟩
    let letsGo (result : PunchResult) (why : Option SkipReason) (pins : List Nat) (r : Part) : Prop :=
      (p.punch.held = false → r.tracker = p.tracker) ∧
      (∀ es e fs, p.punch.held = true → p.tracker.queue = es ++ e :: fs → (∀ y ∈ es, y.stage ≠ .atPunch) →
        e.stage = .atPunch → r.tracker = { p.tracker with queue := es ++ { e with
          stage := .toDrill, punchResult := some result, punchSkip := why, faultedPins := pins
          deadline := travel p.timebase.settings.mid } :: fs }) ∧
      r = { p with
        stations := opened, tracker := r.tracker
        punch := { p.punch with
          state := .idle, treatment := none, engaged := [], faulted := [], brokenOff := false, held := false
          deadline := none } }
    let atWork (i : Idx4) : Prop := i ∈ p.drill.cycle ∧ (p.spindle i).working = true
    let broken (i : Idx4) : Spindle := let y := p.spindle i
      if i ∈ p.drill.cycle ∧ (y.state = .plunge ∨ y.state = .dwell) then
        if y.upLevel = true then { y with state := .done, passes := 0, timedOut := true, deadline := none }
        else { y with state := .retract, passes := 0, timedOut := true, deadline := due y.profile.retractWindow }
      else if i ∈ p.drill.cycle ∧ y.state = .retract then { y with passes := 0, timedOut := true }
      else y
    let marked (l : List Idx4) : Prop := ∀ i, i ∈ l ↔ i ∈ p.drill.faulted ∨ atWork i
    let cycleEnds : Bool := p.drill.cycle.all fun i => (broken i).state != .retract
    (p.sup.line = .run ∨ p.sup.line = .hold → p.stations.activation.has x = true ∨ p.cycleRunning x = true →
      let q := ({ p with stations := opened } : Part).raise (.guardOpen x) none
      exec (.guardOpen x) s = .next (s.withPart q) ∧ q.stations = opened ∧
        q.effective x = false ∧ q.sup.line = .halt ∧
        q.sup.haltRecord.map HaltRecord.cause = some (.guardOpen x)) ∧
    (p.sup.line = .run ∨ p.sup.line = .hold → p.stations.activation.has x = false → p.cycleRunning x = false →
      exec (.guardOpen x) s = .next (s.withPart { p with stations := opened })) ∧
    (p.sup.line = .halt → exec (.guardOpen x) s = .next (s.withPart { p with stations := opened })) ∧
    (p.sup.line = .idle → p.cycleRunning x = false →
      exec (.guardOpen x) s = .next (s.withPart { p with stations := opened })) ∧
    (p.sup.line = .idle → ∃ q : Part, exec (.guardOpen x) s = .next (s.withPart q) ∧ q.stations = opened ∧
      q.sup = p.sup ∧
      (x = .punch → p.punch.state = .engage → letsGo .skipped (some .stationOff) [] q) ∧
      (x = .punch → p.punch.state = .strike → p.punch.ramUpLevel = false → q = { p with
        stations := opened
        punch := { p.punch with state := .ramReturn, brokenOff := true, deadline := due p.punch.returnWindow } }) ∧
      (x = .punch → p.punch.state = .strike → p.punch.ramUpLevel = true →
        ∃ r, letsGo .partStruck none p.punch.faulted r ∧ q =
          if p.punch.pendingSetup then { r with punch := { r.punch with pendingSetup := false } }.strikeSetup else r) ∧
      (x = .punch → p.punch.state = .ramReturn → q = { p with stations := opened }) ∧
      (x = .drill → p.drill.cycle ≠ [] →
        (cycleEnds = false →
          (∀ i, q.spindle i = broken i) ∧ marked q.drill.faulted ∧
          q = { p with
            stations := opened
            drill := { p.drill with spindles := q.drill.spindles, faulted := q.drill.faulted } }) ∧
        (cycleEnds = true → ∃ r : Part,
          (∀ i, r.spindle i = if (broken i).state = .done then (broken i).toIdle else broken i) ∧
          (p.drill.held = false → r.tracker = p.tracker) ∧
          (∀ es e fs, p.drill.held = true → p.tracker.queue = es ++ e :: fs → (∀ y ∈ es, y.stage ≠ .atDrill) →
            e.stage = .atDrill → ∃ l, marked l ∧ r.tracker = { p.tracker with queue := es ++ { e with
              stage := .toGate, drillSkip := none, faultedSpindles := l
              drillResult := some (if l = [] then .drilled else .partDrilled)
              deadline := travel p.timebase.settings.runOut } :: fs }) ∧
          r = { p with
            stations := opened, tracker := r.tracker
            drill := { p.drill with spindles := r.drill.spindles, cycle := [], held := false, faulted := [] } } ∧
          q = if p.drill.pendingSetup = true ∧ r.drillBusy = false then
              { r with drill := { r.drill with pendingSetup := false } }.drillSetup
            else r)) ∧
      (∀ cur, x = .closer → p.cycleRunning .closer = true → p.closer.current = some cur →
        let failed : Part := { p with
          stations := opened
          closer := { p.closer with
            state := .fault, deadline := none
            faultRecord := some ⟨p.closer.state, cur.book, cur.pocket, .guard⟩ } }
        q = (if p.closer.state = .dump then failed else failed.spoil cur.book .closerFault false) ∧
        q.closer.state = .fault ∧
        q.closer.faultRecord = some ⟨p.closer.state, cur.book, cur.pocket, .guard⟩))) ∧
  exec (.guardClose x) s = .next (s.withPart (
    { p with stations := { p.stations with guardsOpen := p.stations.guardsOpen.set false x } } : Part).follow)

/-- The inputs of the supervisor and the level rows. Supply-low, driver-shutdown and the stop input becoming active:
the levels, and by line state their halts, each the model's one `raise`, whose effects HaltEntryEffects states, on the
part with that level set, or, in HALT, the secondary record. Driver-hot with its flag, the four
inactive rows, the die lines and the sensor levels that clear change nothing but their level. That an input acts on
becoming active alone is log 8's reading. -/
def Obligations.InputRowsComplete : Prop :=
  ∀ (s : State) (p : Part), p = s.toPart.settle →
  let halts (c : Instr) (w : Cause) (u : Supervisor) : Prop :=
    let q := ({ p with sup := u } : Part).raise w none
    exec c s = .next (s.withPart q) ∧ q.sup.line = .halt ∧ q.sup.haltRecord.map HaltRecord.cause = some w ∧
      q.sup.supplyLow = u.supplyLow ∧ q.sup.driverShutdown = u.driverShutdown ∧ q.sup.stopInput = u.stopInput
  let sup (i : Instr) (u : Supervisor) : Prop := exec i s = .next (s.withPart { p with sup := u })
  (p.sup.supplyLow = false → p.sup.line = .run ∨ p.sup.line = .hold →
    halts .supplyLow .supplyLow { p.sup with supplyLow := true }) ∧
  (p.sup.supplyLow = false → p.sup.line = .idle → exec .supplyLow s = .next (s.withPart
    { p with sup := { p.sup with supplyLow := true } })) ∧
  (p.sup.driverShutdown = false → p.sup.line = .run ∨ p.sup.line = .hold →
    halts .driverShutdown .driverShutdown { p.sup with driverShutdown := true }) ∧
  (p.sup.driverShutdown = false → p.sup.line = .idle → exec .driverShutdown s = .next (s.withPart
    { p with sup := { p.sup with driverShutdown := true } })) ∧
  (p.sup.stopInput = false → p.sup.line ≠ .halt →
    halts .externalStop .externalStop { p.sup with stopInput := true }) ∧
  (p.sup.line = .halt → p.sup.secondary = none →
    (p.sup.supplyLow = false →
      sup .supplyLow { p.sup with supplyLow := true, secondary := some ⟨.supplyLow, none⟩ }) ∧
    (p.sup.driverShutdown = false →
      sup .driverShutdown { p.sup with driverShutdown := true, secondary := some ⟨.driverShutdown, none⟩ }) ∧
    (p.sup.stopInput = false →
      sup .externalStop { p.sup with stopInput := true, secondary := some ⟨.externalStop, none⟩ })) ∧
  (p.sup.line = .halt → p.sup.secondary ≠ none →
    (p.sup.supplyLow = false → sup .supplyLow { p.sup with supplyLow := true, more := true }) ∧
    (p.sup.driverShutdown = false → sup .driverShutdown { p.sup with driverShutdown := true, more := true }) ∧
    (p.sup.stopInput = false → sup .externalStop { p.sup with stopInput := true, more := true })) ∧
  sup .driverHot { p.sup with driverHot := true, driverHotFlag := true } ∧
  sup .driverHotInactive { p.sup with driverHot := false } ∧
  sup .supplyLowInactive { p.sup with supplyLow := false } ∧
  sup .driverShutdownInactive { p.sup with driverShutdown := false } ∧
  sup .stopInputInactive { p.sup with stopInput := false } ∧
  (∀ l, exec (.dieIdentityChange l) s = .next (s.withPart { p with punch := { p.punch with dieLines := l } })) ∧
  exec .ramUpLevelClears s = .next (s.withPart { p with punch := { p.punch with ramUpLevel := false } }) ∧
  exec .hangerEmptyClears s = .next (s.withPart { p with closer := { p.closer with hangerEmpty := false } }) ∧
  ∀ i, ∃ q r : Part, exec (.spindleLevelClears i .down) s = .next (s.withPart q) ∧
    exec (.spindleLevelClears i .up) s = .next (s.withPart r) ∧
    q.spindle i = { p.spindle i with downLevel := false } ∧ r.spindle i = { p.spindle i with upLevel := false } ∧
    (∀ j, j ≠ i → q.spindle j = p.spindle j ∧ r.spindle j = p.spindle j) ∧
    q = { p with drill := { p.drill with spindles := q.drill.spindles } } ∧
    r = { p with drill := { p.drill with spindles := r.drill.spindles } }

/-- The outputs, the effective set, the lookups and the tests that the stations and the gate make follow from the
state, in every state. Where the other statements speak of a lookup (the oldest entry in a stage, a record by its
number, a coil's health, a pocket, a spindle), this says what it finds, and what an entry that becomes DONE and a
spindle that becomes IDLE is. The part an event finds is the one that rows of the part's own, taken in turn, make of
it, and where each of them changes nothing it is the part as it stands (log 1). A station is effective when it is
activated, in service and its guard is closed; a sheet's own fault is a punch or drill result of PARTIAL or SKIPPED,
so that NOT_REQUIRED diverts nothing; the die matches when the identity sampled is not 0 and is the kind to compare; a
request is executable at the head of the command list when it is eligible, no RESET is in progress and an addressed
one finds a slot, and such a head and a reserved slot leave one slot fewer free; a cycle runs, a book is loaded and a
pocket is first free as the spec says. Transport run in RUN alone; feed hold released while the line is RUN and enough
entries are WAITING; hold out while the four places of the receive buffer are taken; the latch, ram, feed and closer
drives by the state of their controller; the fault line by HALT, the two FAULT states and the enabled fault classes;
the operator signal STEADY in HALT, else PULSED in HOLD or with the closer in FAULT, else OFF. PULSED shows as steady
while the timebase is not VALID, and is on in the first half of each second while it is. -/
def Obligations.OutputsFollowState : Prop :=
  (let own : List Instr := [.readStatus, .readQueue, .readBook, .readPattern, .readDrill, .readCloser, .readHalt, .run,
     .stop, .halt, .resume, .clearFaults, .reset, .loadPattern, .clearPattern, .setPunch, .setProfile, .mapSpindles,
     .setCloser, .setTimebase, .startTimebase, .stations, .service, .setLine, .amendBook, .cancelBook, .unknownRequest,
     .resetCompletes, .ticketClassified, .sheetAdmitted, .jam .leadIn, .jam .mid, .jam .runOut, .jam .drop, .ramStall,
     .ramStuck, .closerWindowRunsOut, .dumpWindowRunsOut] ++
     Idx4.all.flatMap fun i => [.dwellRunsOut i, .plungeWindowRunsOut i, .drillStuck i]
   ∀ s : State,
     (∃ (l : List Instr) (f : Nat → State), (∀ i ∈ l, i ∈ own) ∧ f 0 = s ∧ f l.length = s.withPart s.toPart.settle ∧
       ∀ k i, l[k]? = some i → exec i (f k) = .next (f (k + 1))) ∧
     ((∀ i ∈ own, exec i s = .next s) → s.toPart.settle = s.toPart)) ∧
  (∀ e : Entry, (e.isVoid = true ↔ e.voidReason ≠ none) ∧
    ∀ o, e.finish o = { e with stage := .done, outcome := some o, deadline := none }) ∧
  (∀ x : Spindle, x.toIdle = { x with state := .idle, copy := none, passes := 0, timedOut := false, deadline := none } ∧
    (x.working = true ↔ x.state = .plunge ∨ x.state = .dwell ∨ x.state = .retract) ∧
    ∀ c, x.copy = some c → x.profile = c.profile) ∧
  (∀ q : Quad Idx4, q.toList = [q.q1, q.q2, q.q3, q.q4] ∧ Idx4.all.map q.get = q.toList) ∧
  Idx4.all.map Idx4.toNat = [1, 2, 3, 4] ∧ [PocketId.a, .b].map PocketId.dest = [Dest.pocketA, .pocketB] ∧
  [LandingSensor.pocketA, .pocketB, .reject].map Part.landingDest = [Dest.pocketA, .pocketB, .reject] ∧
  (∀ (x : StationSet) (v : Bool), [Station.punch, .drill, .closer].map x.has = [x.punch, x.drill, x.closer] ∧
    x.set v .punch = { x with punch := v } ∧ x.set v .drill = { x with drill := v } ∧
    x.set v .closer = { x with closer := v }) ∧
  (∀ it : Item, it.addressed = true ↔ it.ticket.dest ≠ 0) ∧
  ∀ p : Part,
  (∀ st e, p.oldest st = some e ↔
    ∃ es fs, p.tracker.queue = es ++ e :: fs ∧ (∀ x ∈ es, x.stage ≠ st) ∧ e.stage = st) ∧
  (∀ st, p.hasStage st = true ↔ ∃ e ∈ p.tracker.queue, e.stage = st) ∧
  p.waitingCount = p.tracker.queue.countP (fun e => e.stage == .waiting) ∧
  (∀ n b, p.book? n = some b ↔
    ∃ bs cs, p.books.records = bs ++ b :: cs ∧ (∀ x ∈ bs, x.number ≠ n) ∧ b.number = n) ∧
  (∀ i b, p.recordById? i = some b ↔
    ∃ bs cs, p.books.records = bs ++ b :: cs ∧ (∀ x ∈ bs, x.id ≠ i) ∧ b.id = i) ∧
  (∀ n, p.bookSpoiled n = true ↔ ∃ b, p.book? n = some b ∧ b.state = .spoiled) ∧
  (∀ n, n < 64 → p.patterns.toList[n]? = some ⟨p.pattern? n, p.useCount n⟩) ∧
  (∀ c, 1 ≤ c → c ≤ 49 → p.punch.health.toList[c - 1]? = some (p.coilHealth c)) ∧
  p.pocket .a = p.closer.pocketA ∧ p.pocket .b = p.closer.pocketB ∧
  p.drill.spindles = ⟨p.spindle .i1, p.spindle .i2, p.spindle .i3, p.spindle .i4⟩ ∧
  (p.drillBusy = true ↔ ∃ i, (p.spindle i).state ≠ .idle) ∧
  (p.noticePending = true ↔ p.sup.notice ≠ none ∨ ∃ t, p.port.sending = some ⟨.haltNotice, t⟩) ∧
  (p.effective .punch = true ↔ p.stations.activation.punch = true ∧ p.stations.outOfService.punch = false ∧
    p.stations.guardsOpen.punch = false) ∧
  (p.effective .drill = true ↔ p.stations.activation.drill = true ∧ p.stations.outOfService.drill = false ∧
    p.stations.guardsOpen.drill = false) ∧
  (p.effective .closer = true ↔ p.stations.activation.closer = true ∧ p.stations.outOfService.closer = false ∧
    p.stations.guardsOpen.closer = false) ∧
  p.effectiveSet = ⟨p.effective .punch, p.effective .drill, p.effective .closer⟩ ∧
  (∀ e : Entry, e.ownFault = true ↔ e.punchResult = some .partStruck ∨ e.punchResult = some .skipped ∨
    e.drillResult = some .partDrilled ∨ e.drillResult = some .skipped) ∧
  (∀ (d : Option DieKind) (l : BitVec 3), dieMatches d l = true ↔ l ≠ 0 ∧ d = some (.kind l.toNat)) ∧
  (p.cycleRunning .punch = true ↔ p.punch.state ∈ [PunchState.engage, .strike, .ramReturn]) ∧
  (p.cycleRunning .drill = true ↔ p.drill.cycle ≠ []) ∧
  (p.cycleRunning .closer = true ↔ p.closer.state ∈ [CloserState.clamp, .hanger, .feed, .cut, .close, .eject, .dump]) ∧
  (∀ b, p.loaded b = true ↔ ∃ a, p.closer.active = some a ∧ a.id = b.id ∧ a.mark = .atCut) ∧
  (∀ k, p.freePocket = some k ↔ (p.pocket k).state = .free ∧ (k = .b → (p.pocket .a).state ≠ .free)) ∧
  (∀ it, p.executable = some it ↔ p.cmd.list.head? = some it ∧ p.cmd.resetting = none ∧ p.eligible it = true ∧
    (it.addressed = true → p.port.outList.length < 8)) ∧
  (let asks : Prop := ∃ it, p.cmd.list.head? = some it ∧ p.cmd.resetting = none ∧ p.eligible it = true ∧
     it.addressed = true
   let reserved : Prop := ∃ r, p.cmd.resetting = some r ∧ r.reserved = true
   (asks ∨ reserved → p.outFree = 7 - p.port.outList.length) ∧
   (¬asks → ¬reserved → p.outFree = 8 - p.port.outList.length)) ∧
  (p.transportRun = true ↔ p.sup.line = .run) ∧
  (p.feedHold = false ↔ p.sup.line = .run ∧
    p.sup.feedMargin ≤ p.tracker.queue.countP fun e => e.stage == .waiting) ∧
  (∀ bytes, p.port.rx = .inside bytes → (p.holdOut = true ↔ 4 ≤ p.port.rxBuf.length + 1)) ∧
  ((∀ bytes, p.port.rx ≠ .inside bytes) → (p.holdOut = true ↔ 4 ≤ p.port.rxBuf.length)) ∧
  (p.punch.state ∈ [PunchState.engage, .strike, .ramReturn] → p.latchDrives = p.punch.engaged) ∧
  (p.punch.state ∈ [PunchState.idle, .fault] → p.latchDrives = []) ∧
  (p.ramCommandDown = true ↔ p.punch.state = .strike) ∧
  (∀ i, p.feedCommandDown i = true ↔ (p.spindle i).state = .plunge ∨ (p.spindle i).state = .dwell) ∧
  (let d := p.closerDrive
   let st := p.closer.state
   (d.clamp = true ↔ st ∈ [CloserState.clamp, .hanger, .feed, .cut, .close]) ∧ (d.hanger = true ↔ st = .hanger) ∧
   (d.feed = true ↔ st = .feed) ∧ (d.cut = true ↔ st = .cut) ∧ (d.close = true ↔ st = .close) ∧
   (d.eject = true ↔ st = .eject) ∧ (d.dump = true ↔ st = .dump)) ∧
  (p.faultLine = true ↔ p.sup.line = .halt ∨ p.punch.state = .fault ∨ (∃ i, (p.spindle i).state = .fault) ∨
    (p.sup.enables.pinFaults = true ∧ ∃ c, 1 ≤ c ∧ c ≤ 49 ∧ p.coilHealth c ≠ .ok) ∨
    (p.sup.enables.closerFault = true ∧ p.closer.state = .fault) ∨
    (p.sup.enables.linkError = true ∧ p.port.linkError = true) ∨
    (p.sup.enables.driverHot = true ∧ p.sup.driverHotFlag = true) ∨
    (p.sup.enables.powerUp = true ∧ p.sup.powerUpFlag = true)) ∧
  (p.sup.line = .halt → p.signal = .steady) ∧
  (p.sup.line ≠ .halt → p.sup.line = .hold ∨ p.closer.state = .fault → p.signal = .pulsed) ∧
  (p.sup.line ≠ .halt → p.sup.line ≠ .hold → p.closer.state ≠ .fault → p.signal = .off) ∧
  (p.signal = .steady → p.signalOn = true) ∧ (p.signal = .off → p.signalOn = false) ∧
  (p.signal = .pulsed → p.timebase.state ≠ .valid → p.signalOn = true) ∧
  (p.signal = .pulsed → p.timebase.state = .valid → (p.signalOn = true ↔ p.timebase.millis.toNat % 1000 < 500))

/-! ### Invariants -/

/-- Each invariant of Safety.lean holds at State.reset. -/
def Obligations.InvariantsHoldAtReset : Prop :=
  let p := State.reset.toPart
  p.BlankKept ∧ p.RunsValid ∧ p.WithinCapacity ∧ p.OneAtEach ∧ p.StagesInOrder ∧ p.UseCountsExact ∧ p.PocketsHeld ∧
  p.BooksSound

/-- Entry 0 always holds the blank pattern, and the line runs or holds only while the timebase is VALID, whatever
comes. -/
def Obligations.StepKeepsBlankAndRunValid : Prop :=
  ∀ s t : State, step s = .next t →
  (s.toPart.BlankKept → t.toPart.BlankKept) ∧ (s.toPart.RunsValid → t.toPart.RunsValid)

/-- No step overfills the queue, the book table, the receive buffer, the output list or the command list. -/
def Obligations.StepKeepsCapacity : Prop :=
  ∀ s t : State, s.toPart.WithinCapacity → step s = .next t → t.toPart.WithinCapacity

/-- No step puts a second entry at the punch, at the drill or at the gate. Sheets do not overtake: the stages of the
queue never rise from the head to the tail; and in HALT no entry is in transit. -/
def Obligations.StepKeepsQueueOrder : Prop :=
  ∀ s t : State, step s = .next t →
  (s.toPart.OneAtEach → t.toPart.OneAtEach) ∧ (s.toPart.StagesInOrder → t.toPart.StagesInOrder)

/-- The use counts stay exact. -/
def Obligations.StepKeepsUseCounts : Prop :=
  ∀ s t : State, s.toPart.UseCountsExact → step s = .next t → t.toPart.UseCountsExact

/-- The pockets and the books agree after every step: unique book numbers, each pocket that is not FREE held by just one
record in a state that R37 gives, and the request list holding the FULL and DUMP_WAIT pockets. -/
def Obligations.StepKeepsPocketsHeld : Prop :=
  ∀ s t : State, s.toPart.PocketsHeld → s.toPart.BooksSound → s.toPart.StagesInOrder → step s = .next t →
  t.toPart.PocketsHeld

/-- The books' counts and states agree after every step: gathered + diverted + lost ≤ admitted ≤ expected ≤ 60, the
in-queue count exact, and the rest of `BooksSound`. -/
def Obligations.StepKeepsBooksSound : Prop :=
  ∀ s t : State, s.toPart.PocketsHeld → s.toPart.BooksSound → s.toPart.StagesInOrder → step s = .next t →
  t.toPart.BooksSound

/-- The timebase settings stand from START TIMEBASE until power-on or hard reset, and the service lock with the
out-of-service set once it is set. -/
def Obligations.LocksStandUntilReset : Prop :=
  ∀ (s t : State) (c : Instr) (rest : List Instr), s.pending = c :: rest →
  (∀ pins, c ≠ .powerOn pins ∧ c ≠ .hardReset pins) → step s = .next t →
  (s.timebase.state ≠ .unset → t.timebase.settings = s.timebase.settings ∧ t.timebase.state ≠ .unset) ∧
  (s.stations.lock = true → t.stations.lock = true ∧ t.stations.outOfService = s.stations.outOfService)
end

