-- ==== Sys2Proof/Laws/State.lean ====
section
/-! SUPPORT. What each block update leaves in each block. -/

namespace Sys2Proof.Machine.Part

@[simp] theorem onPort_fields (f : Port → Port) (p : Part) :
    (p.onPort f).port = f p.port ∧ (p.onPort f).cmd = p.cmd ∧ (p.onPort f).tracker = p.tracker ∧
    (p.onPort f).patterns = p.patterns ∧ (p.onPort f).books = p.books ∧ (p.onPort f).punch = p.punch ∧
    (p.onPort f).drill = p.drill ∧ (p.onPort f).closer = p.closer ∧ (p.onPort f).timebase = p.timebase ∧
    (p.onPort f).stations = p.stations ∧ (p.onPort f).sup = p.sup :=
  ⟨rfl, rfl, rfl, rfl, rfl, rfl, rfl, rfl, rfl, rfl, rfl⟩

@[simp] theorem onCmd_fields (f : CommandUnit → CommandUnit) (p : Part) :
    (p.onCmd f).port = p.port ∧ (p.onCmd f).cmd = f p.cmd ∧ (p.onCmd f).tracker = p.tracker ∧
    (p.onCmd f).patterns = p.patterns ∧ (p.onCmd f).books = p.books ∧ (p.onCmd f).punch = p.punch ∧
    (p.onCmd f).drill = p.drill ∧ (p.onCmd f).closer = p.closer ∧ (p.onCmd f).timebase = p.timebase ∧
    (p.onCmd f).stations = p.stations ∧ (p.onCmd f).sup = p.sup :=
  ⟨rfl, rfl, rfl, rfl, rfl, rfl, rfl, rfl, rfl, rfl, rfl⟩

@[simp] theorem onTracker_fields (f : Tracker → Tracker) (p : Part) :
    (p.onTracker f).port = p.port ∧ (p.onTracker f).cmd = p.cmd ∧ (p.onTracker f).tracker = f p.tracker ∧
    (p.onTracker f).patterns = p.patterns ∧ (p.onTracker f).books = p.books ∧ (p.onTracker f).punch = p.punch ∧
    (p.onTracker f).drill = p.drill ∧ (p.onTracker f).closer = p.closer ∧ (p.onTracker f).timebase = p.timebase ∧
    (p.onTracker f).stations = p.stations ∧ (p.onTracker f).sup = p.sup :=
  ⟨rfl, rfl, rfl, rfl, rfl, rfl, rfl, rfl, rfl, rfl, rfl⟩

@[simp] theorem onPatterns_fields (f : Vector Pattern 64 → Vector Pattern 64) (p : Part) :
    (p.onPatterns f).port = p.port ∧ (p.onPatterns f).cmd = p.cmd ∧ (p.onPatterns f).tracker = p.tracker ∧
    (p.onPatterns f).patterns = f p.patterns ∧ (p.onPatterns f).books = p.books ∧ (p.onPatterns f).punch = p.punch ∧
    (p.onPatterns f).drill = p.drill ∧ (p.onPatterns f).closer = p.closer ∧ (p.onPatterns f).timebase = p.timebase ∧
    (p.onPatterns f).stations = p.stations ∧ (p.onPatterns f).sup = p.sup :=
  ⟨rfl, rfl, rfl, rfl, rfl, rfl, rfl, rfl, rfl, rfl, rfl⟩

@[simp] theorem onBooks_fields (f : BookTable → BookTable) (p : Part) :
    (p.onBooks f).port = p.port ∧ (p.onBooks f).cmd = p.cmd ∧ (p.onBooks f).tracker = p.tracker ∧
    (p.onBooks f).patterns = p.patterns ∧ (p.onBooks f).books = f p.books ∧ (p.onBooks f).punch = p.punch ∧
    (p.onBooks f).drill = p.drill ∧ (p.onBooks f).closer = p.closer ∧ (p.onBooks f).timebase = p.timebase ∧
    (p.onBooks f).stations = p.stations ∧ (p.onBooks f).sup = p.sup :=
  ⟨rfl, rfl, rfl, rfl, rfl, rfl, rfl, rfl, rfl, rfl, rfl⟩

@[simp] theorem onPunch_fields (f : Punch → Punch) (p : Part) :
    (p.onPunch f).port = p.port ∧ (p.onPunch f).cmd = p.cmd ∧ (p.onPunch f).tracker = p.tracker ∧
    (p.onPunch f).patterns = p.patterns ∧ (p.onPunch f).books = p.books ∧ (p.onPunch f).punch = f p.punch ∧
    (p.onPunch f).drill = p.drill ∧ (p.onPunch f).closer = p.closer ∧ (p.onPunch f).timebase = p.timebase ∧
    (p.onPunch f).stations = p.stations ∧ (p.onPunch f).sup = p.sup :=
  ⟨rfl, rfl, rfl, rfl, rfl, rfl, rfl, rfl, rfl, rfl, rfl⟩

@[simp] theorem onDrill_fields (f : Drill → Drill) (p : Part) :
    (p.onDrill f).port = p.port ∧ (p.onDrill f).cmd = p.cmd ∧ (p.onDrill f).tracker = p.tracker ∧
    (p.onDrill f).patterns = p.patterns ∧ (p.onDrill f).books = p.books ∧ (p.onDrill f).punch = p.punch ∧
    (p.onDrill f).drill = f p.drill ∧ (p.onDrill f).closer = p.closer ∧ (p.onDrill f).timebase = p.timebase ∧
    (p.onDrill f).stations = p.stations ∧ (p.onDrill f).sup = p.sup :=
  ⟨rfl, rfl, rfl, rfl, rfl, rfl, rfl, rfl, rfl, rfl, rfl⟩

@[simp] theorem onCloser_fields (f : Closer → Closer) (p : Part) :
    (p.onCloser f).port = p.port ∧ (p.onCloser f).cmd = p.cmd ∧ (p.onCloser f).tracker = p.tracker ∧
    (p.onCloser f).patterns = p.patterns ∧ (p.onCloser f).books = p.books ∧ (p.onCloser f).punch = p.punch ∧
    (p.onCloser f).drill = p.drill ∧ (p.onCloser f).closer = f p.closer ∧ (p.onCloser f).timebase = p.timebase ∧
    (p.onCloser f).stations = p.stations ∧ (p.onCloser f).sup = p.sup :=
  ⟨rfl, rfl, rfl, rfl, rfl, rfl, rfl, rfl, rfl, rfl, rfl⟩

@[simp] theorem onTimebase_fields (f : Timebase → Timebase) (p : Part) :
    (p.onTimebase f).port = p.port ∧ (p.onTimebase f).cmd = p.cmd ∧ (p.onTimebase f).tracker = p.tracker ∧
    (p.onTimebase f).patterns = p.patterns ∧ (p.onTimebase f).books = p.books ∧ (p.onTimebase f).punch = p.punch ∧
    (p.onTimebase f).drill = p.drill ∧ (p.onTimebase f).closer = p.closer ∧ (p.onTimebase f).timebase = f p.timebase ∧
    (p.onTimebase f).stations = p.stations ∧ (p.onTimebase f).sup = p.sup :=
  ⟨rfl, rfl, rfl, rfl, rfl, rfl, rfl, rfl, rfl, rfl, rfl⟩

@[simp] theorem onStations_fields (f : Stations → Stations) (p : Part) :
    (p.onStations f).port = p.port ∧ (p.onStations f).cmd = p.cmd ∧ (p.onStations f).tracker = p.tracker ∧
    (p.onStations f).patterns = p.patterns ∧ (p.onStations f).books = p.books ∧ (p.onStations f).punch = p.punch ∧
    (p.onStations f).drill = p.drill ∧ (p.onStations f).closer = p.closer ∧ (p.onStations f).timebase = p.timebase ∧
    (p.onStations f).stations = f p.stations ∧ (p.onStations f).sup = p.sup :=
  ⟨rfl, rfl, rfl, rfl, rfl, rfl, rfl, rfl, rfl, rfl, rfl⟩

@[simp] theorem onSup_fields (f : Supervisor → Supervisor) (p : Part) :
    (p.onSup f).port = p.port ∧ (p.onSup f).cmd = p.cmd ∧ (p.onSup f).tracker = p.tracker ∧
    (p.onSup f).patterns = p.patterns ∧ (p.onSup f).books = p.books ∧ (p.onSup f).punch = p.punch ∧
    (p.onSup f).drill = p.drill ∧ (p.onSup f).closer = p.closer ∧ (p.onSup f).timebase = p.timebase ∧
    (p.onSup f).stations = p.stations ∧ (p.onSup f).sup = f p.sup :=
  ⟨rfl, rfl, rfl, rfl, rfl, rfl, rfl, rfl, rfl, rfl, rfl⟩

end Sys2Proof.Machine.Part
end

