-- ==== Sys2Proof/Laws/Frames.lean ====
section
/-! SUPPORT. What each shared operation leaves alone: the blocks of the part that it never touches. -/

set_option linter.unusedTactic false
set_option linter.unnecessarySeqFocus false

namespace Sys2Proof.Machine.Part

/-- A fold of steps leaves alone what each step leaves alone. -/
theorem foldl_keeps {α β : Type} (f : Part → α → Part) (g : Part → β) (h : ∀ p a, g (f p a) = g p) (l : List α)
    (p : Part) : g (l.foldl f p) = g p := by
  induction l generalizing p with
  | nil => rfl
  | cons a l ih => rw [List.foldl_cons, ih, h]

@[simp] theorem modifyOldest_frame (st : Stage) (f : Entry → Entry) (p : Part) :
    (p.modifyOldest st f).port = p.port ∧ (p.modifyOldest st f).cmd = p.cmd ∧
    (p.modifyOldest st f).patterns = p.patterns ∧ (p.modifyOldest st f).books = p.books ∧
    (p.modifyOldest st f).punch = p.punch ∧ (p.modifyOldest st f).drill = p.drill ∧
    (p.modifyOldest st f).closer = p.closer ∧ (p.modifyOldest st f).timebase = p.timebase ∧
    (p.modifyOldest st f).stations = p.stations ∧ (p.modifyOldest st f).sup = p.sup := by
  unfold Part.modifyOldest; (repeat' split) <;> simp

@[simp] theorem setPattern_frame (n : Nat) (f : Pattern → Pattern) (p : Part) :
    (p.setPattern n f).port = p.port ∧ (p.setPattern n f).cmd = p.cmd ∧ (p.setPattern n f).tracker = p.tracker ∧
    (p.setPattern n f).books = p.books ∧ (p.setPattern n f).punch = p.punch ∧ (p.setPattern n f).drill = p.drill ∧
    (p.setPattern n f).closer = p.closer ∧ (p.setPattern n f).timebase = p.timebase ∧
    (p.setPattern n f).stations = p.stations ∧ (p.setPattern n f).sup = p.sup := by
  unfold Part.setPattern; (repeat' split) <;> simp

@[simp] theorem raiseUse_frame (n : Nat) (p : Part) :
    (p.raiseUse n).port = p.port ∧ (p.raiseUse n).cmd = p.cmd ∧ (p.raiseUse n).tracker = p.tracker ∧
    (p.raiseUse n).books = p.books ∧ (p.raiseUse n).punch = p.punch ∧ (p.raiseUse n).drill = p.drill ∧
    (p.raiseUse n).closer = p.closer ∧ (p.raiseUse n).timebase = p.timebase ∧ (p.raiseUse n).stations = p.stations ∧
    (p.raiseUse n).sup = p.sup := by
  unfold Part.raiseUse; (repeat' split) <;> simp

@[simp] theorem lowerUse_frame (n : Nat) (p : Part) :
    (p.lowerUse n).port = p.port ∧ (p.lowerUse n).cmd = p.cmd ∧ (p.lowerUse n).tracker = p.tracker ∧
    (p.lowerUse n).books = p.books ∧ (p.lowerUse n).punch = p.punch ∧ (p.lowerUse n).drill = p.drill ∧
    (p.lowerUse n).closer = p.closer ∧ (p.lowerUse n).timebase = p.timebase ∧ (p.lowerUse n).stations = p.stations ∧
    (p.lowerUse n).sup = p.sup := by
  unfold Part.lowerUse; (repeat' split) <;> simp

@[simp] theorem setPocket_frame (k : PocketId) (x : Pocket) (p : Part) :
    (p.setPocket k x).port = p.port ∧ (p.setPocket k x).cmd = p.cmd ∧ (p.setPocket k x).tracker = p.tracker ∧
    (p.setPocket k x).patterns = p.patterns ∧ (p.setPocket k x).books = p.books ∧ (p.setPocket k x).punch = p.punch ∧
    (p.setPocket k x).drill = p.drill ∧ (p.setPocket k x).timebase = p.timebase ∧
    (p.setPocket k x).stations = p.stations ∧ (p.setPocket k x).sup = p.sup := by
  cases k <;> simp [Part.setPocket]

@[simp] theorem movePocket_frame (k : PocketId) (st : PocketState) (p : Part) :
    (p.movePocket k st).port = p.port ∧ (p.movePocket k st).cmd = p.cmd ∧ (p.movePocket k st).tracker = p.tracker ∧
    (p.movePocket k st).patterns = p.patterns ∧ (p.movePocket k st).books = p.books ∧
    (p.movePocket k st).punch = p.punch ∧ (p.movePocket k st).drill = p.drill ∧
    (p.movePocket k st).timebase = p.timebase ∧ (p.movePocket k st).stations = p.stations ∧
    (p.movePocket k st).sup = p.sup := by
  unfold Part.movePocket; (repeat' split) <;> simp

@[simp] theorem joinRequests_frame (k : PocketId) (p : Part) :
    (p.joinRequests k).port = p.port ∧ (p.joinRequests k).cmd = p.cmd ∧ (p.joinRequests k).tracker = p.tracker ∧
    (p.joinRequests k).patterns = p.patterns ∧ (p.joinRequests k).books = p.books ∧
    (p.joinRequests k).punch = p.punch ∧ (p.joinRequests k).drill = p.drill ∧
    (p.joinRequests k).timebase = p.timebase ∧ (p.joinRequests k).stations = p.stations ∧
    (p.joinRequests k).sup = p.sup := by
  unfold Part.joinRequests; (repeat' split) <;> simp

@[simp] theorem updateBook_frame (n : Nat) (f : Book → Book) (p : Part) :
    (p.updateBook n f).port = p.port ∧ (p.updateBook n f).cmd = p.cmd ∧ (p.updateBook n f).tracker = p.tracker ∧
    (p.updateBook n f).patterns = p.patterns ∧ (p.updateBook n f).punch = p.punch ∧
    (p.updateBook n f).drill = p.drill ∧ (p.updateBook n f).closer = p.closer ∧
    (p.updateBook n f).timebase = p.timebase ∧ (p.updateBook n f).stations = p.stations ∧
    (p.updateBook n f).sup = p.sup := by
  unfold Part.updateBook; (repeat' split) <;> simp

@[simp] theorem endBook_frame (n : Nat) (o : BookOutcome) (p : Part) :
    (p.endBook n o).port = p.port ∧ (p.endBook n o).cmd = p.cmd ∧ (p.endBook n o).tracker = p.tracker ∧
    (p.endBook n o).patterns = p.patterns ∧ (p.endBook n o).punch = p.punch ∧ (p.endBook n o).drill = p.drill ∧
    (p.endBook n o).closer = p.closer ∧ (p.endBook n o).timebase = p.timebase ∧
    (p.endBook n o).stations = p.stations ∧ (p.endBook n o).sup = p.sup := by
  unfold Part.endBook; (repeat' split) <;> simp

@[simp] theorem endTest_frame (n : Nat) (p : Part) :
    (p.endTest n).port = p.port ∧ (p.endTest n).cmd = p.cmd ∧ (p.endTest n).tracker = p.tracker ∧
    (p.endTest n).patterns = p.patterns ∧ (p.endTest n).punch = p.punch ∧ (p.endTest n).drill = p.drill ∧
    (p.endTest n).closer = p.closer ∧ (p.endTest n).timebase = p.timebase ∧ (p.endTest n).stations = p.stations ∧
    (p.endTest n).sup = p.sup := by
  unfold Part.endTest; (repeat' split) <;> simp

@[simp] theorem spoilPocket_frame (k : PocketId) (p : Part) :
    (p.spoilPocket k).port = p.port ∧ (p.spoilPocket k).cmd = p.cmd ∧ (p.spoilPocket k).tracker = p.tracker ∧
    (p.spoilPocket k).patterns = p.patterns ∧ (p.spoilPocket k).books = p.books ∧ (p.spoilPocket k).punch = p.punch ∧
    (p.spoilPocket k).drill = p.drill ∧ (p.spoilPocket k).timebase = p.timebase ∧
    (p.spoilPocket k).stations = p.stations ∧ (p.spoilPocket k).sup = p.sup := by
  unfold Part.spoilPocket; (repeat' split) <;> simp

@[simp] theorem dropStaged_frame (i : Nat) (p : Part) :
    (p.dropStaged i).port = p.port ∧ (p.dropStaged i).cmd = p.cmd ∧ (p.dropStaged i).tracker = p.tracker ∧
    (p.dropStaged i).patterns = p.patterns ∧ (p.dropStaged i).books = p.books ∧ (p.dropStaged i).punch = p.punch ∧
    (p.dropStaged i).drill = p.drill ∧ (p.dropStaged i).timebase = p.timebase ∧
    (p.dropStaged i).stations = p.stations ∧ (p.dropStaged i).sup = p.sup := by
  unfold Part.dropStaged; (repeat' split) <;> simp

@[simp] theorem spoil_frame (n : Nat) (why : SpoilReason) (lower : Bool) (p : Part) :
    (p.spoil n why lower).port = p.port ∧ (p.spoil n why lower).cmd = p.cmd ∧
    (p.spoil n why lower).tracker = p.tracker ∧ (p.spoil n why lower).patterns = p.patterns ∧
    (p.spoil n why lower).punch = p.punch ∧ (p.spoil n why lower).drill = p.drill ∧
    (p.spoil n why lower).timebase = p.timebase ∧ (p.spoil n why lower).stations = p.stations ∧
    (p.spoil n why lower).sup = p.sup := by
  unfold Part.spoil; dsimp only; (repeat' split) <;> simp

@[simp] theorem giveUpPocket_frame (k : PocketId) (n : Nat) (f : Book → Book) (p : Part) :
    (p.giveUpPocket k n f).port = p.port ∧ (p.giveUpPocket k n f).cmd = p.cmd ∧
    (p.giveUpPocket k n f).tracker = p.tracker ∧ (p.giveUpPocket k n f).patterns = p.patterns ∧
    (p.giveUpPocket k n f).punch = p.punch ∧ (p.giveUpPocket k n f).drill = p.drill ∧
    (p.giveUpPocket k n f).timebase = p.timebase ∧ (p.giveUpPocket k n f).stations = p.stations ∧
    (p.giveUpPocket k n f).sup = p.sup := by
  unfold Part.giveUpPocket; (repeat' split) <;> simp

@[simp] theorem makeReady_frame (n : Nat) (p : Part) :
    (p.makeReady n).port = p.port ∧ (p.makeReady n).cmd = p.cmd ∧ (p.makeReady n).tracker = p.tracker ∧
    (p.makeReady n).patterns = p.patterns ∧ (p.makeReady n).punch = p.punch ∧ (p.makeReady n).drill = p.drill ∧
    (p.makeReady n).timebase = p.timebase ∧ (p.makeReady n).stations = p.stations ∧ (p.makeReady n).sup = p.sup := by
  unfold Part.makeReady; dsimp only; (repeat' split) <;> simp

@[simp] theorem readyTest_frame (n : Nat) (p : Part) :
    (p.readyTest n).port = p.port ∧ (p.readyTest n).cmd = p.cmd ∧ (p.readyTest n).tracker = p.tracker ∧
    (p.readyTest n).patterns = p.patterns ∧ (p.readyTest n).punch = p.punch ∧ (p.readyTest n).drill = p.drill ∧
    (p.readyTest n).timebase = p.timebase ∧ (p.readyTest n).stations = p.stations ∧ (p.readyTest n).sup = p.sup := by
  unfold Part.readyTest; (repeat' split) <;> simp

@[simp] theorem countDone_frame (o : Outcome) (e : Entry) (p : Part) :
    (p.countDone o e).port = p.port ∧ (p.countDone o e).cmd = p.cmd ∧ (p.countDone o e).tracker = p.tracker ∧
    (p.countDone o e).punch = p.punch ∧ (p.countDone o e).drill = p.drill ∧ (p.countDone o e).timebase = p.timebase ∧
    (p.countDone o e).stations = p.stations ∧ (p.countDone o e).sup = p.sup := by
  unfold Part.countDone; dsimp only; (repeat' split) <;> simp

@[simp] theorem finishAll_frame (pick : Entry → Bool) (o : Outcome) (p : Part) :
    (p.finishAll pick o).port = p.port ∧ (p.finishAll pick o).cmd = p.cmd ∧ (p.finishAll pick o).punch = p.punch ∧
    (p.finishAll pick o).drill = p.drill ∧ (p.finishAll pick o).timebase = p.timebase ∧
    (p.finishAll pick o).stations = p.stations ∧ (p.finishAll pick o).sup = p.sup :=
  ⟨by unfold Part.finishAll; dsimp only; rw [foldl_keeps _ Part.port (by intros; simp)]; simp,
    by unfold Part.finishAll; dsimp only; rw [foldl_keeps _ Part.cmd (by intros; simp)]; simp,
    by unfold Part.finishAll; dsimp only; rw [foldl_keeps _ Part.punch (by intros; simp)]; simp,
    by unfold Part.finishAll; dsimp only; rw [foldl_keeps _ Part.drill (by intros; simp)]; simp,
    by unfold Part.finishAll; dsimp only; rw [foldl_keeps _ Part.timebase (by intros; simp)]; simp,
    by unfold Part.finishAll; dsimp only; rw [foldl_keeps _ Part.stations (by intros; simp)]; simp,
    by unfold Part.finishAll; dsimp only; rw [foldl_keeps _ Part.sup (by intros; simp)]; simp⟩

@[simp] theorem enterCloser_frame (st : CloserState) (w : CloserWindows → Nat) (p : Part) :
    (p.enterCloser st w).port = p.port ∧ (p.enterCloser st w).cmd = p.cmd ∧ (p.enterCloser st w).tracker = p.tracker ∧
    (p.enterCloser st w).patterns = p.patterns ∧ (p.enterCloser st w).books = p.books ∧
    (p.enterCloser st w).punch = p.punch ∧ (p.enterCloser st w).drill = p.drill ∧
    (p.enterCloser st w).timebase = p.timebase ∧ (p.enterCloser st w).stations = p.stations ∧
    (p.enterCloser st w).sup = p.sup := by
  unfold Part.enterCloser; (repeat' split) <;> simp

@[simp] theorem idleCloser_frame (p : Part) :
    (p.idleCloser).port = p.port ∧ (p.idleCloser).cmd = p.cmd ∧ (p.idleCloser).tracker = p.tracker ∧
    (p.idleCloser).patterns = p.patterns ∧ (p.idleCloser).books = p.books ∧ (p.idleCloser).punch = p.punch ∧
    (p.idleCloser).drill = p.drill ∧ (p.idleCloser).timebase = p.timebase ∧ (p.idleCloser).stations = p.stations ∧
    (p.idleCloser).sup = p.sup := by
  unfold Part.idleCloser; (repeat' split) <;> simp

@[simp] theorem loadActive_frame (b : Book) (p : Part) :
    (p.loadActive b).port = p.port ∧ (p.loadActive b).cmd = p.cmd ∧ (p.loadActive b).tracker = p.tracker ∧
    (p.loadActive b).patterns = p.patterns ∧ (p.loadActive b).books = p.books ∧ (p.loadActive b).punch = p.punch ∧
    (p.loadActive b).drill = p.drill ∧ (p.loadActive b).timebase = p.timebase ∧
    (p.loadActive b).stations = p.stations ∧ (p.loadActive b).sup = p.sup := by
  unfold Part.loadActive; (repeat' split) <;> simp

@[simp] theorem dropActive_frame (i : Nat) (p : Part) :
    (p.dropActive i).port = p.port ∧ (p.dropActive i).cmd = p.cmd ∧ (p.dropActive i).tracker = p.tracker ∧
    (p.dropActive i).patterns = p.patterns ∧ (p.dropActive i).books = p.books ∧ (p.dropActive i).punch = p.punch ∧
    (p.dropActive i).drill = p.drill ∧ (p.dropActive i).timebase = p.timebase ∧
    (p.dropActive i).stations = p.stations ∧ (p.dropActive i).sup = p.sup := by
  unfold Part.dropActive; (repeat' split) <;> simp

@[simp] theorem takeBind_frame (k : PocketId) (b : Book) (p : Part) :
    (p.takeBind k b).port = p.port ∧ (p.takeBind k b).cmd = p.cmd ∧ (p.takeBind k b).tracker = p.tracker ∧
    (p.takeBind k b).patterns = p.patterns ∧ (p.takeBind k b).punch = p.punch ∧ (p.takeBind k b).drill = p.drill ∧
    (p.takeBind k b).timebase = p.timebase ∧ (p.takeBind k b).stations = p.stations ∧
    (p.takeBind k b).sup = p.sup := by
  simp [Part.takeBind]

@[simp] theorem takeDump_frame (k : PocketId) (b : Book) (p : Part) :
    (p.takeDump k b).port = p.port ∧ (p.takeDump k b).cmd = p.cmd ∧ (p.takeDump k b).tracker = p.tracker ∧
    (p.takeDump k b).patterns = p.patterns ∧ (p.takeDump k b).punch = p.punch ∧ (p.takeDump k b).drill = p.drill ∧
    (p.takeDump k b).timebase = p.timebase ∧ (p.takeDump k b).stations = p.stations ∧
    (p.takeDump k b).sup = p.sup := by
  simp [Part.takeDump]

@[simp] theorem take_frame (k : PocketId) (p : Part) :
    (p.take k).port = p.port ∧ (p.take k).cmd = p.cmd ∧ (p.take k).tracker = p.tracker ∧
    (p.take k).patterns = p.patterns ∧ (p.take k).punch = p.punch ∧ (p.take k).drill = p.drill ∧
    (p.take k).timebase = p.timebase ∧ (p.take k).stations = p.stations ∧ (p.take k).sup = p.sup := by
  unfold Part.take; dsimp only; (repeat' split) <;> simp

@[simp] theorem tryTake_frame (p : Part) :
    (p.tryTake).port = p.port ∧ (p.tryTake).cmd = p.cmd ∧ (p.tryTake).tracker = p.tracker ∧
    (p.tryTake).patterns = p.patterns ∧ (p.tryTake).punch = p.punch ∧ (p.tryTake).drill = p.drill ∧
    (p.tryTake).timebase = p.timebase ∧ (p.tryTake).stations = p.stations ∧ (p.tryTake).sup = p.sup := by
  unfold Part.tryTake; (repeat' split) <;> simp

@[simp] theorem closerFails_frame (c : CloserCause) (p : Part) :
    (p.closerFails c).port = p.port ∧ (p.closerFails c).cmd = p.cmd ∧ (p.closerFails c).tracker = p.tracker ∧
    (p.closerFails c).patterns = p.patterns ∧ (p.closerFails c).punch = p.punch ∧ (p.closerFails c).drill = p.drill ∧
    (p.closerFails c).timebase = p.timebase ∧ (p.closerFails c).stations = p.stations ∧
    (p.closerFails c).sup = p.sup := by
  unfold Part.closerFails; dsimp only; (repeat' split) <;> simp

@[simp] theorem ejectBound_frame (p : Part) :
    (p.ejectBound).port = p.port ∧ (p.ejectBound).cmd = p.cmd ∧ (p.ejectBound).tracker = p.tracker ∧
    (p.ejectBound).patterns = p.patterns ∧ (p.ejectBound).punch = p.punch ∧ (p.ejectBound).drill = p.drill ∧
    (p.ejectBound).timebase = p.timebase ∧ (p.ejectBound).stations = p.stations ∧ (p.ejectBound).sup = p.sup := by
  unfold Part.ejectBound; dsimp only; (repeat' split) <;> simp

@[simp] theorem dumpEmptied_frame (p : Part) :
    (p.dumpEmptied).port = p.port ∧ (p.dumpEmptied).cmd = p.cmd ∧ (p.dumpEmptied).tracker = p.tracker ∧
    (p.dumpEmptied).patterns = p.patterns ∧ (p.dumpEmptied).punch = p.punch ∧ (p.dumpEmptied).drill = p.drill ∧
    (p.dumpEmptied).timebase = p.timebase ∧ (p.dumpEmptied).stations = p.stations ∧ (p.dumpEmptied).sup = p.sup := by
  unfold Part.dumpEmptied; (repeat' split) <;> simp

@[simp] theorem returnPocket_frame (k : PocketId) (p : Part) :
    (p.returnPocket k).port = p.port ∧ (p.returnPocket k).cmd = p.cmd ∧ (p.returnPocket k).tracker = p.tracker ∧
    (p.returnPocket k).patterns = p.patterns ∧ (p.returnPocket k).books = p.books ∧
    (p.returnPocket k).punch = p.punch ∧ (p.returnPocket k).drill = p.drill ∧
    (p.returnPocket k).timebase = p.timebase ∧ (p.returnPocket k).stations = p.stations ∧
    (p.returnPocket k).sup = p.sup := by
  unfold Part.returnPocket; (repeat' split) <;> simp

@[simp] theorem haltCloser_frame (p : Part) :
    (p.haltCloser).port = p.port ∧ (p.haltCloser).cmd = p.cmd ∧ (p.haltCloser).tracker = p.tracker ∧
    (p.haltCloser).patterns = p.patterns ∧ (p.haltCloser).punch = p.punch ∧ (p.haltCloser).drill = p.drill ∧
    (p.haltCloser).timebase = p.timebase ∧ (p.haltCloser).stations = p.stations ∧ (p.haltCloser).sup = p.sup := by
  unfold Part.haltCloser; dsimp only; (repeat' split) <;> simp

@[simp] theorem resetCloser_frame (p : Part) :
    (p.resetCloser).port = p.port ∧ (p.resetCloser).cmd = p.cmd ∧ (p.resetCloser).tracker = p.tracker ∧
    (p.resetCloser).patterns = p.patterns ∧ (p.resetCloser).books = p.books ∧ (p.resetCloser).punch = p.punch ∧
    (p.resetCloser).drill = p.drill ∧ (p.resetCloser).timebase = p.timebase ∧ (p.resetCloser).stations = p.stations ∧
    (p.resetCloser).sup = p.sup := by
  unfold Part.resetCloser; (repeat' split) <;> simp

@[simp] theorem clearCloser_frame (p : Part) :
    (p.clearCloser).port = p.port ∧ (p.clearCloser).cmd = p.cmd ∧ (p.clearCloser).tracker = p.tracker ∧
    (p.clearCloser).patterns = p.patterns ∧ (p.clearCloser).punch = p.punch ∧ (p.clearCloser).drill = p.drill ∧
    (p.clearCloser).timebase = p.timebase ∧ (p.clearCloser).stations = p.stations ∧ (p.clearCloser).sup = p.sup := by
  unfold Part.clearCloser; dsimp only; (repeat' split) <;> simp

@[simp] theorem releasePunch_frame (r : PunchResult) (w : Option SkipReason) (l : List Nat) (p : Part) :
    (p.releasePunch r w l).port = p.port ∧ (p.releasePunch r w l).cmd = p.cmd ∧
    (p.releasePunch r w l).patterns = p.patterns ∧ (p.releasePunch r w l).books = p.books ∧
    (p.releasePunch r w l).punch = p.punch ∧ (p.releasePunch r w l).drill = p.drill ∧
    (p.releasePunch r w l).closer = p.closer ∧ (p.releasePunch r w l).timebase = p.timebase ∧
    (p.releasePunch r w l).stations = p.stations ∧ (p.releasePunch r w l).sup = p.sup := by
  unfold Part.releasePunch; (repeat' split) <;> simp

@[simp] theorem releaseDrill_frame (r : DrillResult) (w : Option SkipReason) (l : List Idx4) (p : Part) :
    (p.releaseDrill r w l).port = p.port ∧ (p.releaseDrill r w l).cmd = p.cmd ∧
    (p.releaseDrill r w l).patterns = p.patterns ∧ (p.releaseDrill r w l).books = p.books ∧
    (p.releaseDrill r w l).punch = p.punch ∧ (p.releaseDrill r w l).drill = p.drill ∧
    (p.releaseDrill r w l).closer = p.closer ∧ (p.releaseDrill r w l).timebase = p.timebase ∧
    (p.releaseDrill r w l).stations = p.stations ∧ (p.releaseDrill r w l).sup = p.sup := by
  unfold Part.releaseDrill; (repeat' split) <;> simp

@[simp] theorem raiseWait_frame (p : Part) :
    (p.raiseWait).port = p.port ∧ (p.raiseWait).cmd = p.cmd ∧ (p.raiseWait).tracker = p.tracker ∧
    (p.raiseWait).patterns = p.patterns ∧ (p.raiseWait).books = p.books ∧ (p.raiseWait).punch = p.punch ∧
    (p.raiseWait).drill = p.drill ∧ (p.raiseWait).closer = p.closer ∧ (p.raiseWait).timebase = p.timebase ∧
    (p.raiseWait).stations = p.stations := by
  unfold Part.raiseWait; (repeat' split) <;> simp

@[simp] theorem withdrawWait_frame (p : Part) :
    (p.withdrawWait).port = p.port ∧ (p.withdrawWait).cmd = p.cmd ∧ (p.withdrawWait).tracker = p.tracker ∧
    (p.withdrawWait).patterns = p.patterns ∧ (p.withdrawWait).books = p.books ∧ (p.withdrawWait).punch = p.punch ∧
    (p.withdrawWait).drill = p.drill ∧ (p.withdrawWait).closer = p.closer ∧ (p.withdrawWait).timebase = p.timebase ∧
    (p.withdrawWait).stations = p.stations := by
  unfold Part.withdrawWait; (repeat' split) <;> simp

@[simp] theorem dropTo_frame (d : Dest) (p : Part) :
    (p.dropTo d).port = p.port ∧ (p.dropTo d).cmd = p.cmd ∧ (p.dropTo d).patterns = p.patterns ∧
    (p.dropTo d).books = p.books ∧ (p.dropTo d).punch = p.punch ∧ (p.dropTo d).drill = p.drill ∧
    (p.dropTo d).closer = p.closer ∧ (p.dropTo d).timebase = p.timebase ∧ (p.dropTo d).stations = p.stations := by
  simp [Part.dropTo]

@[simp] theorem grant_frame (k : PocketId) (n : Nat) (p : Part) :
    (p.grant k n).port = p.port ∧ (p.grant k n).cmd = p.cmd ∧ (p.grant k n).tracker = p.tracker ∧
    (p.grant k n).patterns = p.patterns ∧ (p.grant k n).punch = p.punch ∧ (p.grant k n).drill = p.drill ∧
    (p.grant k n).timebase = p.timebase ∧ (p.grant k n).stations = p.stations ∧ (p.grant k n).sup = p.sup := by
  unfold Part.grant; (repeat' split) <;> simp

@[simp] theorem gateDecide_frame (p : Part) :
    (p.gateDecide).port = p.port ∧ (p.gateDecide).cmd = p.cmd ∧ (p.gateDecide).patterns = p.patterns ∧
    (p.gateDecide).punch = p.punch ∧ (p.gateDecide).drill = p.drill ∧ (p.gateDecide).timebase = p.timebase ∧
    (p.gateDecide).stations = p.stations := by
  unfold Part.gateDecide; (repeat' split) <;> simp

@[simp] theorem follow_frame (p : Part) :
    (p.follow).port = p.port ∧ (p.follow).cmd = p.cmd ∧ (p.follow).patterns = p.patterns ∧
    (p.follow).punch = p.punch ∧ (p.follow).drill = p.drill ∧ (p.follow).timebase = p.timebase ∧
    (p.follow).stations = p.stations := by
  unfold Part.follow; (repeat' split) <;> simp

@[simp] theorem markCoil_frame (c : Nat) (v : PinHealth) (p : Part) :
    (p.markCoil c v).port = p.port ∧ (p.markCoil c v).cmd = p.cmd ∧ (p.markCoil c v).tracker = p.tracker ∧
    (p.markCoil c v).patterns = p.patterns ∧ (p.markCoil c v).books = p.books ∧ (p.markCoil c v).drill = p.drill ∧
    (p.markCoil c v).closer = p.closer ∧ (p.markCoil c v).timebase = p.timebase ∧
    (p.markCoil c v).stations = p.stations ∧ (p.markCoil c v).sup = p.sup := by
  unfold Part.markCoil; (repeat' split) <;> simp

@[simp] theorem idlePunch_frame (p : Part) :
    (p.idlePunch).port = p.port ∧ (p.idlePunch).cmd = p.cmd ∧ (p.idlePunch).tracker = p.tracker ∧
    (p.idlePunch).patterns = p.patterns ∧ (p.idlePunch).books = p.books ∧ (p.idlePunch).drill = p.drill ∧
    (p.idlePunch).closer = p.closer ∧ (p.idlePunch).timebase = p.timebase ∧ (p.idlePunch).stations = p.stations ∧
    (p.idlePunch).sup = p.sup := by
  unfold Part.idlePunch; (repeat' split) <;> simp

@[simp] theorem engage_frame (t : Treatment) (p : Part) :
    (p.engage t).port = p.port ∧ (p.engage t).cmd = p.cmd ∧ (p.engage t).tracker = p.tracker ∧
    (p.engage t).patterns = p.patterns ∧ (p.engage t).books = p.books ∧ (p.engage t).drill = p.drill ∧
    (p.engage t).closer = p.closer ∧ (p.engage t).timebase = p.timebase ∧ (p.engage t).stations = p.stations ∧
    (p.engage t).sup = p.sup := by
  unfold Part.engage; (repeat' split) <;> simp

@[simp] theorem strikeSetup_frame (p : Part) :
    (p.strikeSetup).port = p.port ∧ (p.strikeSetup).cmd = p.cmd ∧ (p.strikeSetup).patterns = p.patterns ∧
    (p.strikeSetup).books = p.books ∧ (p.strikeSetup).drill = p.drill ∧ (p.strikeSetup).closer = p.closer ∧
    (p.strikeSetup).timebase = p.timebase ∧ (p.strikeSetup).stations = p.stations ∧ (p.strikeSetup).sup = p.sup := by
  unfold Part.strikeSetup; dsimp only; (repeat' split) <;> simp

@[simp] theorem handToPunch_frame (p : Part) :
    (p.handToPunch).port = p.port ∧ (p.handToPunch).cmd = p.cmd ∧ (p.handToPunch).patterns = p.patterns ∧
    (p.handToPunch).books = p.books ∧ (p.handToPunch).drill = p.drill ∧ (p.handToPunch).closer = p.closer ∧
    (p.handToPunch).timebase = p.timebase ∧ (p.handToPunch).stations = p.stations ∧ (p.handToPunch).sup = p.sup := by
  unfold Part.handToPunch; (repeat' split) <;> simp

@[simp] theorem pendingPunch_frame (p : Part) :
    (p.pendingPunch).port = p.port ∧ (p.pendingPunch).cmd = p.cmd ∧ (p.pendingPunch).patterns = p.patterns ∧
    (p.pendingPunch).books = p.books ∧ (p.pendingPunch).drill = p.drill ∧ (p.pendingPunch).closer = p.closer ∧
    (p.pendingPunch).timebase = p.timebase ∧ (p.pendingPunch).stations = p.stations ∧
    (p.pendingPunch).sup = p.sup := by
  unfold Part.pendingPunch; (repeat' split) <;> simp

@[simp] theorem endEngagement_frame (w : SkipReason) (l : List Nat) (p : Part) :
    (p.endEngagement w l).port = p.port ∧ (p.endEngagement w l).cmd = p.cmd ∧
    (p.endEngagement w l).patterns = p.patterns ∧ (p.endEngagement w l).books = p.books ∧
    (p.endEngagement w l).drill = p.drill ∧ (p.endEngagement w l).closer = p.closer ∧
    (p.endEngagement w l).timebase = p.timebase ∧ (p.endEngagement w l).stations = p.stations ∧
    (p.endEngagement w l).sup = p.sup := by
  unfold Part.endEngagement; (repeat' split) <;> simp

@[simp] theorem endRamCycle_frame (p : Part) :
    (p.endRamCycle).port = p.port ∧ (p.endRamCycle).cmd = p.cmd ∧ (p.endRamCycle).patterns = p.patterns ∧
    (p.endRamCycle).books = p.books ∧ (p.endRamCycle).drill = p.drill ∧ (p.endRamCycle).closer = p.closer ∧
    (p.endRamCycle).timebase = p.timebase ∧ (p.endRamCycle).stations = p.stations ∧ (p.endRamCycle).sup = p.sup := by
  unfold Part.endRamCycle; dsimp only; (repeat' split) <;> simp

@[simp] theorem enterReturn_frame (p : Part) :
    (p.enterReturn).port = p.port ∧ (p.enterReturn).cmd = p.cmd ∧ (p.enterReturn).patterns = p.patterns ∧
    (p.enterReturn).books = p.books ∧ (p.enterReturn).drill = p.drill ∧ (p.enterReturn).closer = p.closer ∧
    (p.enterReturn).timebase = p.timebase ∧ (p.enterReturn).stations = p.stations ∧ (p.enterReturn).sup = p.sup := by
  unfold Part.enterReturn; dsimp only; (repeat' split) <;> simp

@[simp] theorem faultPunch_frame (p : Part) :
    (p.faultPunch).port = p.port ∧ (p.faultPunch).cmd = p.cmd ∧ (p.faultPunch).tracker = p.tracker ∧
    (p.faultPunch).patterns = p.patterns ∧ (p.faultPunch).books = p.books ∧ (p.faultPunch).drill = p.drill ∧
    (p.faultPunch).closer = p.closer ∧ (p.faultPunch).timebase = p.timebase ∧ (p.faultPunch).stations = p.stations ∧
    (p.faultPunch).sup = p.sup := by
  unfold Part.faultPunch; (repeat' split) <;> simp

@[simp] theorem haltPunch_frame (p : Part) :
    (p.haltPunch).port = p.port ∧ (p.haltPunch).cmd = p.cmd ∧ (p.haltPunch).patterns = p.patterns ∧
    (p.haltPunch).books = p.books ∧ (p.haltPunch).drill = p.drill ∧ (p.haltPunch).closer = p.closer ∧
    (p.haltPunch).timebase = p.timebase ∧ (p.haltPunch).stations = p.stations ∧ (p.haltPunch).sup = p.sup := by
  unfold Part.haltPunch; dsimp only; (repeat' split) <;> simp

@[simp] theorem clearPunch_frame (p : Part) :
    (p.clearPunch).port = p.port ∧ (p.clearPunch).cmd = p.cmd ∧ (p.clearPunch).tracker = p.tracker ∧
    (p.clearPunch).patterns = p.patterns ∧ (p.clearPunch).books = p.books ∧ (p.clearPunch).drill = p.drill ∧
    (p.clearPunch).closer = p.closer ∧ (p.clearPunch).timebase = p.timebase ∧ (p.clearPunch).stations = p.stations ∧
    (p.clearPunch).sup = p.sup := by
  unfold Part.clearPunch; dsimp only; (repeat' split) <;> simp

@[simp] theorem onSpindle_frame (i : Idx4) (f : Spindle → Spindle) (p : Part) :
    (p.onSpindle i f).port = p.port ∧ (p.onSpindle i f).cmd = p.cmd ∧ (p.onSpindle i f).tracker = p.tracker ∧
    (p.onSpindle i f).patterns = p.patterns ∧ (p.onSpindle i f).books = p.books ∧ (p.onSpindle i f).punch = p.punch ∧
    (p.onSpindle i f).closer = p.closer ∧ (p.onSpindle i f).timebase = p.timebase ∧
    (p.onSpindle i f).stations = p.stations ∧ (p.onSpindle i f).sup = p.sup := by
  unfold Part.onSpindle; (repeat' split) <;> simp

@[simp] theorem endDrillCycle_frame (p : Part) :
    (p.endDrillCycle).port = p.port ∧ (p.endDrillCycle).cmd = p.cmd ∧ (p.endDrillCycle).patterns = p.patterns ∧
    (p.endDrillCycle).books = p.books ∧ (p.endDrillCycle).punch = p.punch ∧ (p.endDrillCycle).closer = p.closer ∧
    (p.endDrillCycle).timebase = p.timebase ∧ (p.endDrillCycle).stations = p.stations ∧
    (p.endDrillCycle).sup = p.sup := by
  unfold Part.endDrillCycle; dsimp only; (repeat' split) <;> simp

@[simp] theorem startCycle_frame (l : List Idx4) (p : Part) :
    (p.startCycle l).port = p.port ∧ (p.startCycle l).cmd = p.cmd ∧ (p.startCycle l).patterns = p.patterns ∧
    (p.startCycle l).books = p.books ∧ (p.startCycle l).punch = p.punch ∧ (p.startCycle l).closer = p.closer ∧
    (p.startCycle l).timebase = p.timebase ∧ (p.startCycle l).stations = p.stations ∧
    (p.startCycle l).sup = p.sup :=
  ⟨by simp only [Part.startCycle, endDrillCycle_frame]; rw [foldl_keeps _ Part.port (by intros; rfl)]; rfl,
    by simp only [Part.startCycle, endDrillCycle_frame]; rw [foldl_keeps _ Part.cmd (by intros; rfl)]; rfl,
    by simp only [Part.startCycle, endDrillCycle_frame]; rw [foldl_keeps _ Part.patterns (by intros; rfl)]; rfl,
    by simp only [Part.startCycle, endDrillCycle_frame]; rw [foldl_keeps _ Part.books (by intros; rfl)]; rfl,
    by simp only [Part.startCycle, endDrillCycle_frame]; rw [foldl_keeps _ Part.punch (by intros; rfl)]; rfl,
    by simp only [Part.startCycle, endDrillCycle_frame]; rw [foldl_keeps _ Part.closer (by intros; rfl)]; rfl,
    by simp only [Part.startCycle, endDrillCycle_frame]; rw [foldl_keeps _ Part.timebase (by intros; rfl)]; rfl,
    by simp only [Part.startCycle, endDrillCycle_frame]; rw [foldl_keeps _ Part.stations (by intros; rfl)]; rfl,
    by simp only [Part.startCycle, endDrillCycle_frame]; rw [foldl_keeps _ Part.sup (by intros; rfl)]; rfl⟩

@[simp] theorem drillSetup_frame (p : Part) :
    (p.drillSetup).port = p.port ∧ (p.drillSetup).cmd = p.cmd ∧ (p.drillSetup).patterns = p.patterns ∧
    (p.drillSetup).books = p.books ∧ (p.drillSetup).punch = p.punch ∧ (p.drillSetup).closer = p.closer ∧
    (p.drillSetup).timebase = p.timebase ∧ (p.drillSetup).stations = p.stations ∧ (p.drillSetup).sup = p.sup := by
  unfold Part.drillSetup; (repeat' split) <;> simp

@[simp] theorem handToDrill_frame (p : Part) :
    (p.handToDrill).port = p.port ∧ (p.handToDrill).cmd = p.cmd ∧ (p.handToDrill).patterns = p.patterns ∧
    (p.handToDrill).books = p.books ∧ (p.handToDrill).punch = p.punch ∧ (p.handToDrill).closer = p.closer ∧
    (p.handToDrill).timebase = p.timebase ∧ (p.handToDrill).stations = p.stations ∧ (p.handToDrill).sup = p.sup := by
  unfold Part.handToDrill; (repeat' split) <;> simp

@[simp] theorem afterSpindle_frame (p : Part) :
    (p.afterSpindle).port = p.port ∧ (p.afterSpindle).cmd = p.cmd ∧ (p.afterSpindle).patterns = p.patterns ∧
    (p.afterSpindle).books = p.books ∧ (p.afterSpindle).punch = p.punch ∧ (p.afterSpindle).closer = p.closer ∧
    (p.afterSpindle).timebase = p.timebase ∧ (p.afterSpindle).stations = p.stations ∧
    (p.afterSpindle).sup = p.sup := by
  unfold Part.afterSpindle; dsimp only; (repeat' split) <;> simp

@[simp] theorem haltDrill_frame (p : Part) :
    (p.haltDrill).port = p.port ∧ (p.haltDrill).cmd = p.cmd ∧ (p.haltDrill).patterns = p.patterns ∧
    (p.haltDrill).books = p.books ∧ (p.haltDrill).punch = p.punch ∧ (p.haltDrill).closer = p.closer ∧
    (p.haltDrill).timebase = p.timebase ∧ (p.haltDrill).stations = p.stations ∧ (p.haltDrill).sup = p.sup := by
  simp [Part.haltDrill]

@[simp] theorem clearDrill_frame (p : Part) :
    (p.clearDrill).port = p.port ∧ (p.clearDrill).cmd = p.cmd ∧ (p.clearDrill).tracker = p.tracker ∧
    (p.clearDrill).patterns = p.patterns ∧ (p.clearDrill).books = p.books ∧ (p.clearDrill).punch = p.punch ∧
    (p.clearDrill).closer = p.closer ∧ (p.clearDrill).timebase = p.timebase ∧ (p.clearDrill).stations = p.stations ∧
    (p.clearDrill).sup = p.sup := by
  unfold Part.clearDrill; (repeat' split) <;> simp

@[simp] theorem haltStations_frame (p : Part) :
    (p.haltStations).port = p.port ∧ (p.haltStations).cmd = p.cmd ∧ (p.haltStations).patterns = p.patterns ∧
    (p.haltStations).timebase = p.timebase ∧ (p.haltStations).stations = p.stations ∧
    (p.haltStations).sup = p.sup := by
  simp [Part.haltStations]

@[simp] theorem loseTransit_frame (p : Part) :
    (p.loseTransit).port = p.port ∧ (p.loseTransit).cmd = p.cmd ∧ (p.loseTransit).punch = p.punch ∧
    (p.loseTransit).drill = p.drill ∧ (p.loseTransit).timebase = p.timebase ∧ (p.loseTransit).stations = p.stations ∧
    (p.loseTransit).sup = p.sup :=
  ⟨by unfold Part.loseTransit; dsimp only; rw [foldl_keeps _ Part.port (by intros; simp)]; simp,
    by unfold Part.loseTransit; dsimp only; rw [foldl_keeps _ Part.cmd (by intros; simp)]; simp,
    by unfold Part.loseTransit; dsimp only; rw [foldl_keeps _ Part.punch (by intros; simp)]; simp,
    by unfold Part.loseTransit; dsimp only; rw [foldl_keeps _ Part.drill (by intros; simp)]; simp,
    by unfold Part.loseTransit; dsimp only; rw [foldl_keeps _ Part.timebase (by intros; simp)]; simp,
    by unfold Part.loseTransit; dsimp only; rw [foldl_keeps _ Part.stations (by intros; simp)]; simp,
    by unfold Part.loseTransit; dsimp only; rw [foldl_keeps _ Part.sup (by intros; simp)]; simp⟩

@[simp] theorem stopAll_frame (p : Part) :
    (p.stopAll).port = p.port ∧ (p.stopAll).cmd = p.cmd ∧ (p.stopAll).timebase = p.timebase ∧
    (p.stopAll).stations = p.stations := by
  simp [Part.stopAll]

@[simp] theorem enterHalt_frame (c : Cause) (w : Option Nat) (p : Part) :
    (p.enterHalt c w).port = p.port ∧ (p.enterHalt c w).cmd = p.cmd ∧ (p.enterHalt c w).timebase = p.timebase ∧
    (p.enterHalt c w).stations = p.stations := by
  simp [Part.enterHalt]

@[simp] theorem noteSecondary_frame (c : Cause) (w : Option Nat) (p : Part) :
    (p.noteSecondary c w).port = p.port ∧ (p.noteSecondary c w).cmd = p.cmd ∧
    (p.noteSecondary c w).tracker = p.tracker ∧ (p.noteSecondary c w).patterns = p.patterns ∧
    (p.noteSecondary c w).books = p.books ∧ (p.noteSecondary c w).punch = p.punch ∧
    (p.noteSecondary c w).drill = p.drill ∧ (p.noteSecondary c w).closer = p.closer ∧
    (p.noteSecondary c w).timebase = p.timebase ∧ (p.noteSecondary c w).stations = p.stations := by
  unfold Part.noteSecondary; (repeat' split) <;> simp

@[simp] theorem raise_frame (c : Cause) (w : Option Nat) (p : Part) :
    (p.raise c w).port = p.port ∧ (p.raise c w).cmd = p.cmd ∧ (p.raise c w).timebase = p.timebase ∧
    (p.raise c w).stations = p.stations := by
  unfold Part.raise; (repeat' split) <;> simp

@[simp] theorem linkReset_frame (p : Part) :
    (p.linkReset).cmd = p.cmd ∧ (p.linkReset).timebase = p.timebase ∧ (p.linkReset).stations = p.stations := by
  simp [Part.linkReset, Part.resetSup, Part.resetTracker, Part.resetBooks]

@[simp] theorem clearFaults_frame (p : Part) :
    (p.clearFaults).cmd = p.cmd ∧ (p.clearFaults).patterns = p.patterns ∧ (p.clearFaults).timebase = p.timebase ∧
    (p.clearFaults).stations = p.stations := by
  simp [Part.clearFaults, Part.clearFlags]

end Sys2Proof.Machine.Part
end

