-- ==== Sys2Proof/Laws/Rows.lean ====
section
/-! SUPPORT. What a row answers, once: an outside event acts on the settled part, a due step acts when it is due, a
request row executes the head of the command list, and a raised cause enters HALT or goes to the secondary record. -/

namespace Sys2Proof.Machine

theorem external_next (f : Part → Part) (s : State) : external f s = .next (s.withPart (f s.toPart.settle)) := rfl

theorem internal_due {d : Due} {s : State} (h : s.toPart.isDue d = true) :
    internal d s = .next (s.withPart (s.toPart.takeDue d)) := by
  simp [internal, h]

theorem internal_not_due {d : Due} {s : State} (h : s.toPart.isDue d = false) : internal d s = .next s := by
  simp [internal, h]

theorem request_next {codes : Nat → Bool} {s : State} {it : Item} (h : s.toPart.executable = some it)
    (hc : codes it.ticket.code = true) : request codes s = .next (s.withPart s.toPart.executeHead) := by
  simp [request, h, hc]

theorem executeHead_answer {p : Part} {it : Item} (h : p.executable = some it)
    (hr : it.ticket.code ≠ 21 ∨ it.ticket.body.length ≠ 1) :
    p.executeHead = (p.popCommand.answer it.ticket).part.placeReply it (p.popCommand.answer it.ticket).result
      (p.popCommand.answer it.ticket).payload := by
  have : ¬(it.ticket.code = 21 ∧ it.ticket.body.length = 1) := by tauto
  simp only [Part.executeHead, h, this, if_false]

theorem code_cons {t : Ticket} {b : Byte} {l : List Byte} (h : t.body = b :: l) : t.code = b.toNat := by
  simp [Ticket.code, h]

/-- A request row whose code the head of the command list has, other than a RESET of the right length, is answered from
the part without that head. -/
theorem request_answer {s : State} {it : Item} {codes : Nat → Bool} (h : s.toPart.executable = some it)
    (hc : codes it.ticket.code = true) (hr : it.ticket.code ≠ 21 ∨ it.ticket.body.length ≠ 1) :
    request codes s = .next (s.withPart ((s.toPart.popCommand.answer it.ticket).part.placeReply it
      (s.toPart.popCommand.answer it.ticket).result (s.toPart.popCommand.answer it.ticket).payload)) := by
  rw [request_next h hc, executeHead_answer h hr]

namespace Part

@[simp] theorem popCommand_frame (p : Part) :
    p.popCommand.port = p.port ∧ p.popCommand.tracker = p.tracker ∧ p.popCommand.patterns = p.patterns ∧
    p.popCommand.books = p.books ∧ p.popCommand.punch = p.punch ∧ p.popCommand.drill = p.drill ∧
    p.popCommand.closer = p.closer ∧ p.popCommand.timebase = p.timebase ∧ p.popCommand.stations = p.stations ∧
    p.popCommand.sup = p.sup :=
  ⟨rfl, rfl, rfl, rfl, rfl, rfl, rfl, rfl, rfl, rfl⟩

@[simp] theorem placeReply_frame (it : Item) (r : ResultCode) (l : List Byte) (p : Part) :
    (p.placeReply it r l).cmd = p.cmd ∧ (p.placeReply it r l).tracker = p.tracker ∧
    (p.placeReply it r l).patterns = p.patterns ∧ (p.placeReply it r l).books = p.books ∧
    (p.placeReply it r l).punch = p.punch ∧ (p.placeReply it r l).drill = p.drill ∧
    (p.placeReply it r l).closer = p.closer ∧ (p.placeReply it r l).timebase = p.timebase ∧
    (p.placeReply it r l).stations = p.stations ∧ (p.placeReply it r l).sup = p.sup := by
  unfold placeReply; split <;> simp

/-! ### The request of each code -/

theorem answer_readStatus {t : Ticket} (h : t.code = 1) (p : Part) : p.answer t = p.answerReadStatus t := by
  simp [answer, h]

theorem answer_readQueue {t : Ticket} (h : t.code = 2) (p : Part) : p.answer t = p.answerReadQueue t := by
  simp [answer, h]

theorem answer_readBook {t : Ticket} (h : t.code = 3) (p : Part) : p.answer t = p.answerReadBook t := by
  simp [answer, h]

theorem answer_readPattern {t : Ticket} (h : t.code = 4) (p : Part) : p.answer t = p.answerReadPattern t := by
  simp [answer, h]

theorem answer_readDrill {t : Ticket} (h : t.code = 5) (p : Part) : p.answer t = p.answerReadDrill t := by
  simp [answer, h]

theorem answer_readCloser {t : Ticket} (h : t.code = 6) (p : Part) : p.answer t = p.answerReadCloser t := by
  simp [answer, h]

theorem answer_readHalt {t : Ticket} (h : t.code = 7) (p : Part) : p.answer t = p.answerReadHalt t := by
  simp [answer, h]

theorem answer_run {t : Ticket} (h : t.code = 16) (p : Part) : p.answer t = p.answerRun t := by
  simp [answer, h]

theorem answer_stop {t : Ticket} (h : t.code = 17) (p : Part) : p.answer t = p.answerStop t := by
  simp [answer, h]

theorem answer_halt {t : Ticket} (h : t.code = 18) (p : Part) : p.answer t = p.answerHalt t := by
  simp [answer, h]

theorem answer_resume {t : Ticket} (h : t.code = 19) (p : Part) : p.answer t = p.answerResume t := by
  simp [answer, h]

theorem answer_clearFaults {t : Ticket} (h : t.code = 20) (p : Part) : p.answer t = p.answerClearFaults t := by
  simp [answer, h]

theorem answer_loadPattern {t : Ticket} (h : t.code = 32) (p : Part) : p.answer t = p.answerLoadPattern t := by
  simp [answer, h]

theorem answer_clearPattern {t : Ticket} (h : t.code = 33) (p : Part) : p.answer t = p.answerClearPattern t := by
  simp [answer, h]

theorem answer_setPunch {t : Ticket} (h : t.code = 34) (p : Part) : p.answer t = p.answerSetPunch t := by
  simp [answer, h]

theorem answer_setProfile {t : Ticket} (h : t.code = 35) (p : Part) : p.answer t = p.answerSetProfile t := by
  simp [answer, h]

theorem answer_mapSpindles {t : Ticket} (h : t.code = 36) (p : Part) : p.answer t = p.answerMapSpindles t := by
  simp [answer, h]

theorem answer_setCloser {t : Ticket} (h : t.code = 37) (p : Part) : p.answer t = p.answerSetCloser t := by
  simp [answer, h]

theorem answer_setTimebase {t : Ticket} (h : t.code = 38) (p : Part) : p.answer t = p.answerSetTimebase t := by
  simp [answer, h]

theorem answer_startTimebase {t : Ticket} (h : t.code = 39) (p : Part) : p.answer t = p.answerStartTimebase t := by
  simp [answer, h]

theorem answer_stations {t : Ticket} (h : t.code = 40) (p : Part) : p.answer t = p.answerStations t := by
  simp [answer, h]

theorem answer_service {t : Ticket} (h : t.code = 41) (p : Part) : p.answer t = p.answerService t := by
  simp [answer, h]

theorem answer_setLine {t : Ticket} (h : t.code = 42) (p : Part) : p.answer t = p.answerSetLine t := by
  simp [answer, h]

theorem answer_amendBook {t : Ticket} (h : t.code = 48) (p : Part) : p.answer t = p.answerAmendBook t := by
  simp [answer, h]

theorem answer_cancelBook {t : Ticket} (h : t.code = 49) (p : Part) : p.answer t = p.answerCancelBook t := by
  simp [answer, h]

/-! ### Raising a cause -/

theorem raise_outside_halt {c : Cause} {w : Option Nat} {p : Part} (h : p.sup.line ≠ .halt) :
    p.raise c w = p.enterHalt c w := by
  simp [raise, h]

theorem raise_in_halt {c : Cause} {w : Option Nat} {p : Part} (h : p.sup.line = .halt) :
    p.raise c w = p.noteSecondary c w := by
  simp [raise, h]

/-- What halt entry writes in the supervisor; the resume point is the one part of it that looks at the books. -/
theorem enterHalt_sup (c : Cause) (w : Option Nat) (p : Part) :
    (p.enterHalt c w).sup = { p.sup with
      line := .halt, pocketWait := false, secondary := none, more := false
      haltRecord := some ⟨c, p.sup.line, p.tracker.queue.head?.map Entry.sequence, w, p.timebase.position,
        newlyHalted p p.stopAll⟩
      notice := some ⟨c, p.tracker.queue.head?.map Entry.sequence, w, newlyHalted p p.stopAll, p.sup.notice.isSome⟩ } := by
  simp [enterHalt, stopAll]

theorem noteSecondary_first {c : Cause} {w : Option Nat} {p : Part} (h : p.sup.secondary = none) :
    p.noteSecondary c w = { p with sup := { p.sup with secondary := some ⟨c, w⟩ } } := by
  simp [noteSecondary, onSup, h]

theorem noteSecondary_more {c : Cause} {w : Option Nat} {p : Part} (h : p.sup.secondary ≠ none) :
    p.noteSecondary c w = { p with sup := { p.sup with more := true } } := by
  obtain ⟨x, hx⟩ := Option.ne_none_iff_exists'.1 h
  simp [noteSecondary, onSup, hx]

/-! ### A landing -/

/-- A landing finishes the oldest DROPPING entry: DIVERTED at the reject bin, GATHERED at a pocket. -/
theorem finishLanding_eq (l : LandingSensor) (e : Entry) (p : Part) :
    p.finishLanding l e =
      (p.modifyOldest .dropping (Entry.finish (if l = .reject then .diverted else .gathered))).countDone
        (if l = .reject then .diverted else .gathered) e := by
  cases l <;> rfl

/-! ### The gate decision -/

/-- The gate decision changes the supervisor only by raising or withdrawing the pocket-wait condition. -/
theorem gateDecide_sup (p : Part) :
    p.gateDecide.sup = p.sup ∨ p.gateDecide.sup = p.raiseWait.sup ∨ p.gateDecide.sup = p.withdrawWait.sup := by
  have hd : ∀ q : Part, q.sup = p.sup → ∀ d, (q.dropTo d).sup = p.withdrawWait.sup := by
    intro q hq d; simp [dropTo, withdrawWait, hq]
  unfold gateDecide
  split
  · exact Or.inl rfl
  · repeat' split
    all_goals first
      | exact Or.inr (Or.inl rfl)
      | exact Or.inr (Or.inr (hd _ (by simp) _))

/-- Outside HOLD what follows an event is the closer's test of its take conditions alone. -/
theorem follow_outside_hold {p : Part} (h : p.sup.line ≠ .hold) : p.follow = p.tryTake := by simp [follow, h]

/-- In IDLE and HALT nothing follows. -/
theorem follow_stopped {p : Part} (h : p.sup.line = .idle ∨ p.sup.line = .halt) : p.follow = p := by
  rw [follow_outside_hold (by rcases h with h | h <;> simp [h])]
  unfold tryTake takeable
  rw [if_neg (by rcases h with h | h <;> simp [h])]

/-- The gate decision, taken in RUN or HOLD, leaves the line in one of the two. -/
theorem gateDecide_line (p : Part) (h : p.sup.line = .run ∨ p.sup.line = .hold) :
    p.gateDecide.sup.line = .run ∨ p.gateDecide.sup.line = .hold := by
  unfold gateDecide
  split
  · exact h
  · have hw : ∀ q : Part, q.sup.line = .run ∨ q.sup.line = .hold → ∀ d,
        (q.dropTo d).sup.line = .run ∨ (q.dropTo d).sup.line = .hold := by
      intro q hq d
      simp only [dropTo, withdrawWait, onSup_fields, onTracker_fields, modifyOldest_frame]
      split <;> rcases hq with hq | hq <;> simp [hq]
    repeat' split
    all_goals first
      | exact hw _ (by simpa using h) _
      | (simp only [raiseWait, onSup_fields]; rcases h with h | h <;> simp [h])

end Part

end Sys2Proof.Machine
end

