-- ==== Sys2Proof/Laws/Lookups.lean ====
section
/-! SUPPORT. What a look-up finds after an update: a pattern or a use count after `setPattern`, a book after
`updateBook`, a pocket after `setPocket`, a coil after `markCoil`, a spindle after `onSpindle`, the oldest entry of a
stage after `modifyOldest`. -/

namespace Sys2Proof.Machine

namespace Part

/-! ### Patterns -/

/-- The entry that `setPattern` changes is the one of its number; a number past 63 names none. -/
theorem patterns_setPattern (n m : Nat) (f : Pattern → Pattern) (p : Part) (h : m < 64) :
    (p.setPattern n f).patterns[m] = if m = n then f p.patterns[m] else p.patterns[m] := by
  unfold setPattern
  simp only [onPatterns_fields]
  split
  · rename_i hn
    by_cases e : m = n
    · subst e; simp
    · rw [Vector.getElem_set_ne _ _ (fun c => e c.symm)]; simp [e]
  · rw [if_neg]; omega

theorem pattern?_setPattern (n m : Nat) (f : Pattern → Pattern) (p : Part) :
    (p.setPattern n f).pattern? m =
      if h : m < 64 then (if m = n then (f p.patterns[m]).loaded else p.pattern? m) else none := by
  unfold pattern?
  split
  · rw [patterns_setPattern]; split <;> rfl
  · rfl

theorem useCount_setPattern (n m : Nat) (f : Pattern → Pattern) (p : Part) :
    (p.setPattern n f).useCount m =
      if h : m < 64 then (if m = n then (f p.patterns[m]).useCount else p.useCount m) else 0 := by
  unfold useCount
  split
  · rw [patterns_setPattern]; split <;> rfl
  · rfl

@[simp] theorem pattern?_raiseUse (n m : Nat) (p : Part) : (p.raiseUse n).pattern? m = p.pattern? m := by
  unfold raiseUse
  rw [pattern?_setPattern]
  unfold pattern?
  split <;> simp

@[simp] theorem pattern?_lowerUse (n m : Nat) (p : Part) : (p.lowerUse n).pattern? m = p.pattern? m := by
  unfold lowerUse
  rw [pattern?_setPattern]
  unfold pattern?
  split <;> simp

theorem useCount_raiseUse (n m : Nat) (p : Part) :
    (p.raiseUse n).useCount m = if m < 64 ∧ m = n then p.useCount m + 1 else p.useCount m := by
  unfold raiseUse
  rw [useCount_setPattern]
  unfold useCount
  by_cases h : m < 64
  · by_cases e : m = n
    · subst e; simp [h]
    · simp [h, e]
  · simp [h]

theorem useCount_lowerUse (n m : Nat) (p : Part) :
    (p.lowerUse n).useCount m = if m < 64 ∧ m = n then p.useCount m - 1 else p.useCount m := by
  unfold lowerUse
  rw [useCount_setPattern]
  unfold useCount
  by_cases h : m < 64
  · by_cases e : m = n
    · subst e; simp [h]
    · simp [h, e]
  · simp [h]

/-! ### Books -/

/-- A record found by number carries it. -/
theorem book?_number {n : Nat} {p : Part} {b : Book} (h : p.book? n = some b) : b.number = n := by
  simpa using List.find?_some (p := fun b : Book => b.number == n) h

/-- A change that keeps the book number is found under it. -/
theorem book?_updateBook (n m : Nat) (f : Book → Book) (hf : ∀ b, (f b).number = b.number) (p : Part) :
    (p.updateBook n f).book? m = if m = n then (p.book? m).map f else p.book? m := by
  unfold updateBook book?
  simp only [onBooks_fields]
  induction p.books.records with
  | nil => simp
  | cons b l ih =>
    simp only [List.map_cons, List.find?_cons]
    have hk : (if b.number = n then f b else b).number = b.number := by split <;> simp [hf]
    rw [hk]
    by_cases c : b.number = m
    · subst c
      by_cases e : b.number = n <;> simp [e]
    · rw [beq_eq_false_iff_ne.2 c]
      exact ih

/-! ### Pockets, coils, spindles -/

theorem pocket_setPocket (k j : PocketId) (x : Pocket) (p : Part) :
    (p.setPocket k x).pocket j = if j = k then x else p.pocket j := by
  cases k <;> cases j <;> rfl

theorem pocket_movePocket (k j : PocketId) (st : PocketState) (p : Part) :
    (p.movePocket k st).pocket j = if j = k then { p.pocket k with state := st } else p.pocket j :=
  pocket_setPocket k j _ p

theorem coilHealth_markCoil (c d : Nat) (v : PinHealth) (p : Part) (hc : 1 ≤ c ∧ c ≤ 49) (hd : 1 ≤ d) :
    (p.markCoil c v).coilHealth d = if d = c then v else p.coilHealth d := by
  unfold markCoil coilHealth
  rw [dif_pos (show 1 ≤ c ∧ c - 1 < 49 by omega)]
  simp only [onPunch_fields]
  by_cases h : d - 1 < 49
  · simp only [h, dif_pos]
    by_cases e : d = c
    · subst e; simp
    · rw [Vector.getElem_set_ne _ _ (by omega)]; simp [e]
  · have e : ¬ d = c := by omega
    simp [h, e]

theorem spindle_onSpindle (i j : Idx4) (f : Spindle → Spindle) (p : Part) :
    (p.onSpindle i f).spindle j = if j = i then f (p.spindle i) else p.spindle j := by
  cases i <;> cases j <;> rfl

end Part

/-! ### Entries -/

/-- The item that `modifyFirst` changes stands after items that the test does not pick. -/
theorem modifyFirst_append {α : Type} (pick : α → Bool) (f : α → α) (l r : List α) (x : α)
    (hl : ∀ y ∈ l, pick y = false) (hx : pick x = true) : modifyFirst pick f (l ++ x :: r) = l ++ f x :: r := by
  induction l with
  | nil => simp [modifyFirst, hx]
  | cons y l ih =>
    have := hl y (by simp)
    simp [modifyFirst, this, ih (fun z hz => hl z (by simp [hz]))]

/-- The oldest entry of a stage stands after entries of other stages. -/
theorem Part.oldest_append {st : Stage} {p : Part} {l r : List Entry} {e : Entry} (hq : p.tracker.queue = l ++ e :: r)
    (hl : ∀ x ∈ l, x.stage ≠ st) (he : e.stage = st) : p.oldest st = some e := by
  unfold Part.oldest
  rw [hq, List.find?_append, List.find?_eq_none.2 (by simpa using hl)]
  simp [he]

/-- Changing the oldest entry of a stage changes that entry alone. -/
theorem Part.modifyOldest_append {st : Stage} {p : Part} {l r : List Entry} {e : Entry} (f : Entry → Entry)
    (hq : p.tracker.queue = l ++ e :: r) (hl : ∀ x ∈ l, x.stage ≠ st) (he : e.stage = st) :
    p.modifyOldest st f = { p with tracker := { p.tracker with queue := l ++ f e :: r } } := by
  unfold Part.modifyOldest Part.onTracker
  dsimp only
  rw [hq, modifyFirst_append _ f l r e (by simpa using hl) (by simp [he])]

end Sys2Proof.Machine
end

