-- ==== Sys2Proof/Laws/Spoil.lean ====
section
/-! SUPPORT. What the end test and a spoil leave in the book table. -/

namespace Sys2Proof.Machine.Part

@[simp] theorem book?_setPocket (k : PocketId) (x : Pocket) (p : Part) (m : Nat) :
    (p.setPocket k x).book? m = p.book? m := by simp [book?]

@[simp] theorem book?_spoilPocket (k : PocketId) (p : Part) (m : Nat) : (p.spoilPocket k).book? m = p.book? m := by
  simp [book?]

@[simp] theorem book?_dropStaged (i : Nat) (p : Part) (m : Nat) : (p.dropStaged i).book? m = p.book? m := by
  simp [book?]

theorem book?_onBooks_endOrder (f : BookTable → List Nat) (p : Part) (m : Nat) :
    (p.onBooks fun t => { t with endOrder := f t }).book? m = p.book? m := rfl

/-- A record that ends. -/
theorem book?_endBook {n : Nat} {o : BookOutcome} {p : Part} {b : Book} (h : p.book? n = some b) (m : Nat) :
    (p.endBook n o).book? m = if m = n then some { b.enter .ended with outcome := some o } else p.book? m := by
  unfold endBook
  rw [h]
  dsimp only
  rw [book?_onBooks_endOrder (fun t => t.endOrder ++ [b.id]), book?_updateBook n m _ (by intro b; rfl)]
  by_cases e : m = n
  · subst e; simp [h]
  · simp [e]

/-- The end test of a record. -/
theorem book?_endTest {n : Nat} {p : Part} {b : Book} (h : p.book? n = some b) (m : Nat) :
    (p.endTest n).book? m =
      if m = n then some (if b.mayEnd then { b.enter .ended with outcome := some .spoiled } else b) else p.book? m := by
  unfold endTest
  rw [h]
  dsimp only
  by_cases e : b.mayEnd = true
  · simp only [e, if_true]; rw [book?_endBook h]
  · simp only [e]
    by_cases c : m = n
    · subst c; simp [h]
    · simp [c]

/-- The end test of one record leaves every other record alone. -/
theorem book?_endTest_ne {n m : Nat} (p : Part) (h : m ≠ n) : (p.endTest n).book? m = p.book? m := by
  cases e : p.book? n with
  | none => unfold endTest; rw [e]
  | some b => rw [book?_endTest e, if_neg h]

/-- A spoil of one book leaves every other record alone. -/
theorem book?_spoil_ne {n m : Nat} (why : SpoilReason) (lower : Bool) (p : Part) (h : m ≠ n) :
    (p.spoil n why lower).book? m = p.book? m := by
  unfold spoil
  dsimp only
  have up : ∀ f : Book → Book, (∀ b, (f b).number = b.number) → (p.updateBook n f).book? m = p.book? m := by
    intro f hf; rw [book?_updateBook n m f hf, if_neg h]
  repeat' split
  all_goals first
    | rfl
    | (simp only [book?_endTest_ne _ h, book?_dropStaged, book?_spoilPocket]
       first
         | rfl
         | (apply up; intro b; rfl))

/-- A spoil of a book in OPEN, FILLED or READY (R40). -/
theorem book?_spoil_fresh {n : Nat} (why : SpoilReason) (lower : Bool) {p : Part} {b : Book} (h : p.book? n = some b)
    (hs : b.state = .opened ∨ b.state = .filled ∨ b.state = .ready) :
    ∃ c, (p.spoil n why lower).book? n = some c ∧ (c.state = .spoiled ∨ c.state = .ended) ∧
      c.spoilReason = some why ∧ c.expected = (if lower then b.admitted else b.expected) ∧
      c.admitted = b.admitted ∧ c.gathered = b.gathered ∧ c.diverted = b.diverted ∧ c.lost = b.lost ∧
      c.number = b.number ∧ c.id = b.id := by
  have hn := book?_number h
  let f : Book → Book := fun b =>
    if lower = true then { { b.enter .spoiled with spoilReason := some why } with expected := b.admitted }
    else { b.enter .spoiled with spoilReason := some why }
  have hf : ∀ b, (f b).number = b.number := by intro b; simp only [f]; split <;> rfl
  have hu : (p.updateBook n f).book? n = some (f b) := by rw [book?_updateBook n n f hf, if_pos rfl, h]; rfl
  have key : ∀ q : Part, q.book? n = some (f b) → ∃ c, ((q.dropStaged b.id).endTest n).book? n = some c ∧
      (c.state = .spoiled ∨ c.state = .ended) ∧ c.spoilReason = some why ∧
      c.expected = (if lower then b.admitted else b.expected) ∧ c.admitted = b.admitted ∧ c.gathered = b.gathered ∧
      c.diverted = b.diverted ∧ c.lost = b.lost ∧ c.number = b.number ∧ c.id = b.id := by
    intro q hq
    have hq' : (q.dropStaged b.id).book? n = some (f b) := by simpa using hq
    refine ⟨_, by rw [book?_endTest hq', if_pos rfl], ?_⟩
    cases lower <;> split <;> simp [f, Book.enter]
  have e : p.spoil n why lower =
      ((match b.pocket with
        | some k => (p.updateBook n f).spoilPocket k
        | none => p.updateBook n f).dropStaged b.id).endTest n := by
    unfold spoil
    rw [h]
    rcases hs with hs | hs | hs <;> simp only [hs] <;> rfl
  rw [e]
  apply key
  split
  · rw [book?_spoilPocket]; exact hu
  · exact hu

end Sys2Proof.Machine.Part
end

