-- ==== Sys2Proof/Laws/HaltEntry.lean ====
section
/-! SUPPORT. What halt entry does to each block: the queue, the stations, the tail book. -/

namespace Sys2Proof.Machine.Part

theorem oldest_none {st : Stage} {p : Part} (h : ∀ e ∈ p.tracker.queue, e.stage ≠ st) : p.oldest st = none := by
  unfold oldest; rw [List.find?_eq_none]; simpa using h

/-- Finishing entries changes the queue entry by entry. -/
theorem finishAll_tracker (pick : Entry → Bool) (o : Outcome) (p : Part) :
    (p.finishAll pick o).tracker = { p.tracker with
      queue := p.tracker.queue.map fun e => if pick e then e.finish o else e } := by
  unfold finishAll; dsimp only; rw [foldl_keeps _ Part.tracker]; rfl
  intros; simp

theorem loseTransit_tracker (p : Part) :
    p.loseTransit.tracker = { p.tracker with
      queue := p.tracker.queue.map fun e => if e.stage.inTransit then e.finish .lost else e } := by
  unfold loseTransit; dsimp only; rw [foldl_keeps _ Part.tracker (by intros; simp), finishAll_tracker]

/-- The punch lets no entry go at a halt: it holds none by then. -/
theorem haltPunch_tracker (p : Part) : p.haltPunch.tracker = p.tracker := by
  unfold haltPunch; dsimp only; split
  · simp [idlePunch]
  · unfold enterReturn; dsimp only; split
    · simp [endRamCycle, pendingPunch, idlePunch]
    · simp
  · simp

theorem haltDrill_tracker (p : Part) : p.haltDrill.tracker = p.tracker := by
  unfold haltDrill endDrillCycle; dsimp only; split <;> simp

theorem haltPunch_held (p : Part) :
    p.haltPunch.punch.held = false ∧ p.haltPunch.punch.health = p.punch.health := by
  unfold haltPunch; dsimp only; split
  · simp [idlePunch]
  · unfold enterReturn; dsimp only; split
    · simp [endRamCycle, pendingPunch, idlePunch]
    · simp
  · simp

theorem haltDrill_held (p : Part) : p.haltDrill.drill.held = false := by
  unfold haltDrill endDrillCycle; dsimp only; split <;> simp

/-- A halt makes every entry in transit LOST and the expected sequence undefined. -/
theorem stopAll_tracker (p : Part) :
    p.stopAll.tracker = { p.tracker with
      expected := none, queue := p.tracker.queue.map fun e => if e.stage.inTransit then e.finish .lost else e } := by
  simp [stopAll, loseTransit_tracker, haltStations, haltPunch_tracker, haltDrill_tracker]

/-- Halt entry leaves the queue and the stations as `stopAll` does. -/
theorem enterHalt_blocks (c : Cause) (w : Option Nat) (p : Part) :
    (p.enterHalt c w).tracker = p.stopAll.tracker ∧ (p.enterHalt c w).books = p.stopAll.books ∧
    (p.enterHalt c w).patterns = p.stopAll.patterns ∧ (p.enterHalt c w).punch = p.stopAll.punch ∧
    (p.enterHalt c w).drill = p.stopAll.drill ∧ (p.enterHalt c w).closer = p.stopAll.closer := by
  simp [enterHalt]

/-! ### The closer -/

theorem spoilPocket_closer (k : PocketId) (p : Part) :
    (p.spoilPocket k).closer.state = p.closer.state ∧ (p.spoilPocket k).closer.active = p.closer.active := by
  unfold spoilPocket; cases k <;> split <;> exact ⟨rfl, rfl⟩

theorem dropStaged_closer (i : Nat) (p : Part) :
    (p.dropStaged i).closer.state = p.closer.state ∧ (p.dropStaged i).closer.active = p.closer.active := by
  unfold dropStaged; simp only [onCloser_fields]; repeat' split
  all_goals exact ⟨rfl, rfl⟩

/-- A spoil changes neither the closer's state nor its active count. -/
theorem spoil_closer (n : Nat) (why : SpoilReason) (lower : Bool) (p : Part) :
    (p.spoil n why lower).closer.state = p.closer.state ∧ (p.spoil n why lower).closer.active = p.closer.active := by
  unfold spoil; dsimp only; repeat' split
  all_goals simp [dropStaged_closer, spoilPocket_closer]

/-- The gate decision does not change the closer's state. -/
theorem gateDecide_closer_state (p : Part) : p.gateDecide.closer.state = p.closer.state := by
  unfold gateDecide
  split
  · rfl
  · repeat' split
    all_goals simp [dropTo, spoil_closer, grant, raiseWait, withdrawWait]
    all_goals (simp only [setPocket]; split <;> rfl)

/-- A halt leaves no cycle running and no active count (R118). -/
theorem haltCloser_closer (p : Part) :
    p.haltCloser.closer.active = none ∧ bindState p.haltCloser.closer.state = false ∧
    p.haltCloser.closer.state ≠ .dump := by
  have ret : ∀ (k : PocketId) (q : Part), q.closer.active = none → (q.returnPocket k).closer.active = none := by
    intro k q h; cases k <;> simp [returnPocket, movePocket, setPocket, h]
  have idl : ∀ q : Part, q.closer.active = none → q.idleCloser.closer.active = none ∧
      bindState q.idleCloser.closer.state = false ∧ q.idleCloser.closer.state ≠ .dump := by
    intro q h; simp [idleCloser, bindState, h]
  unfold haltCloser; dsimp only; repeat' split
  · apply idl; apply ret; rw [(spoil_closer _ _ _ _).2]; rfl
  · apply idl; rfl
  · apply idl; apply ret; rfl
  · apply idl; rfl
  · refine ⟨rfl, ?_, ?_⟩ <;> simp_all

/-! ### The tail book -/

theorem endTest_tailBook (n : Nat) (p : Part) : (p.endTest n).books.tailBook = p.books.tailBook := by
  have h : ∀ n o (q : Part), (q.endBook n o).books.tailBook = q.books.tailBook := by
    intro n o q; unfold endBook; split <;> simp [updateBook]
  unfold endTest; repeat' split
  all_goals simp [h]

theorem spoil_tailBook (n : Nat) (why : SpoilReason) (lower : Bool) (p : Part) :
    (p.spoil n why lower).books.tailBook = p.books.tailBook := by
  unfold spoil; dsimp only; repeat' split
  all_goals simp [endTest_tailBook, updateBook]

theorem finishAll_tailBook (pick : Entry → Bool) (o : Outcome) (p : Part) :
    (p.finishAll pick o).books.tailBook = p.books.tailBook := by
  unfold finishAll; dsimp only; rw [foldl_keeps _ (fun p => p.books.tailBook)]; rfl
  intro p a; unfold countDone; dsimp only; repeat' split
  all_goals simp [updateBook, readyTest, makeReady]
  all_goals (repeat' split)
  all_goals simp

/-- Finishing entries with an outcome other than GATHERED leaves the closer alone. -/
theorem finishAll_closer (pick : Entry → Bool) {o : Outcome} (h : o ≠ .gathered) (p : Part) :
    (p.finishAll pick o).closer = p.closer := by
  unfold finishAll; dsimp only; rw [foldl_keeps _ Part.closer]; rfl
  intro p a; unfold countDone; split
  · rfl
  · cases o <;> first | exact absurd rfl h | simp

end Sys2Proof.Machine.Part
end

