-- ==== Sys2Proof/Laws/Settle.lean ====
section
/-! SUPPORT. What settling can do: an induction over due steps, from which a property kept by every due step is kept by
settling. -/

namespace Sys2Proof.Machine.Part

/-- The step that `nextDue` names is due. -/
theorem nextDue_due {p : Part} {d : Due} (h : p.nextDue = some d) : p.isDue d = true :=
  List.find?_some (p := fun d => p.isDue d) h

/-- With nothing due, no step is taken, whatever the bound. -/
theorem settleFor_of_quiet {p : Part} (h : p.nextDue = none) (n : Nat) : settleFor n p = p := by
  cases n with
  | zero => rfl
  | succ n => rw [settleFor, h]

/-- A property that every due step keeps is kept by settling. -/
theorem settleFor_induct (P : Part → Prop) (step : ∀ d p, P p → p.isDue d = true → P (p.takeDue d)) (n : Nat) (p : Part)
    (h : P p) : P (settleFor n p) := by
  induction n generalizing p with
  | zero => exact h
  | succ n ih =>
    rw [settleFor]
    split
    · exact h
    · rename_i d hd
      exact ih _ (step d p h (nextDue_due hd))

/-- The same for the whole settling. -/
theorem settle_induct (P : Part → Prop) (step : ∀ d p, P p → p.isDue d = true → P (p.takeDue d)) (p : Part) (h : P p) :
    P p.settle := settleFor_induct P step _ p h

end Sys2Proof.Machine.Part
end

