-- ==== Sys2Proof/Tests/Slice0.lean ====
section
/-! SUPPORT. The model's own tests: ill-formed commands that the check refuses, values that the spec writes out, and for
every obligation with hypotheses a theorem `hyp_<Name>` with a state and operands that meet them, clause by clause. -/

namespace Sys2Proof.Tests

open Sys2Proof.Machine

/-! ### Building states -/

/-- Right after reset, with unit address 5. -/
def part : Part := { Part.reset with port := { Part.reset.port with unitAddress := 5 } }

def state (p : Part) : State := { p with pending := [] }

def line (l : LineState) (p : Part) : Part := p.onSup fun u => { u with line := l }

def clock (t : TimebaseState) (p : Part) : Part := p.onTimebase fun x => { x with state := t }

/-- The timebase VALID and the line in a state. -/
def on (l : LineState) : Part := line l (clock .valid part)

def queued (q : List Entry) (p : Part) : Part := p.onTracker fun t => { t with queue := q }

def shelf (l : List Book) (p : Part) : Part := p.onBooks fun t => { t with records := l }

def punched (f : Punch → Punch) (p : Part) : Part := p.onPunch f

def bound (f : Closer → Closer) (p : Part) : Part := p.onCloser f

def spun (f : Spindle → Spindle) (p : Part) : Part := p.onSpindle .i2 f

def drilled (f : Drill → Drill) (p : Part) : Part := p.onDrill f

def ported (f : Port → Port) (p : Part) : Part := p.onPort f

def supped (f : Supervisor → Supervisor) (p : Part) : Part := p.onSup f

/-- A request addressed to the unit. -/
def item (body : List Byte) : Item := ⟨⟨3, 5, 0, 7, body⟩, none⟩

/-- A part with a request at the head of its command list. -/
def asked (body : List Byte) (p : Part) : State := state { p with cmd := ⟨[item body], none⟩ }

/-- A sheet ticket: sequence 3, book 7, leaf 1, a LEAF face UP, pattern 0, the header of a book of 2. -/
def sheet : Ticket := ⟨1, 5, 0, 9, [0, 3, 0, 7, 1, 2, 1, 0, 2, 1, 20, 2]⟩

/-- Leaf 2 of the same book, sequence 4, without a header. -/
def nextSheet : Ticket := ⟨1, 5, 0, 9, [0, 4, 0, 7, 2, 2, 1, 0]⟩

/-- A sheet whose leaf index is 0. -/
def badSheet : Ticket := ⟨1, 5, 0, 9, [0, 3, 0, 7, 0, 2, 1, 0]⟩

def entry (st : Stage) : Entry :=
  { id := 0, ticket := sheet, sequence := 3, book := 7, leaf := 1, role := 2, face := 1, pattern := 0, voidReason := none
    stage := st }

def voidEntry (st : Stage) : Entry := { entry st with voidReason := some .badField }

/-- An entry with a pattern of its own: number 1. -/
def worked (st : Stage) : Entry := { entry st with pattern := 1 }

def book (st : BookState) : Book :=
  { id := 0, number := 7, state := st, expected := 2, admitted := 2, gathered := 0, diverted := 0, lost := 0
    inQueue := 2, wireClass := 1, loopCount := 20, hanger := false, pocket := none, spoilReason := none, generation := 4
    openingSeq := 3, lastLeaf := 2, outcome := none }

/-- Pattern 1: pins 3 and 9 under any die, a hole from spindle 2. -/
def taught (d : DieKind) (p : Part) : Part := p.setPattern 1 fun x => { x with loaded := some ⟨d, [3, 9], false, [.i2]⟩ }

/-- The station sets with every station activated. -/
def activated (p : Part) : Part := p.onStations fun x => { x with activation := ⟨true, true, true⟩ }

/-! ### WellFormed -/

theorem test_coil_zero_refused : WellFormed (.overCurrent 0) = false := by decide
theorem test_coil_past_the_notch_refused : WellFormed (.overCurrent 50) = false := by decide
theorem test_report_coil_refused : WellFormed (.latchCheckReport [(50, .openCoil)]) = false := by decide
theorem test_report_order_refused : WellFormed (.latchCheckReport [(4, .openCoil), (4, .shortCoil)]) = false := by decide
theorem test_notch_accepted :
    WellFormed (.overCurrent 49) = true ∧ WellFormed (.latchCheckReport [(1, .openCoil), (49, .shortCoil)]) = true := by
  decide

/-! ### Values of the spec -/

set_option maxRecDepth 4000 in
/-- The check value of this CRC on the nine digits. -/
theorem test_crc : crc [0x31, 0x32, 0x33, 0x34, 0x35, 0x36, 0x37, 0x38, 0x39] = 0x29B1#16 := by decide

/-- R21, R188: the report of a sheet STRUCK and DRILLED and gathered in pocket B is its body with the report behind. -/
theorem test_report :
    ({ entry .done with outcome := some .gathered, destination := some .pocketB, punchResult := some .struck
                        drillResult := some .drilled }.report 5).body =
      sheet.body ++ [5, 1, 0, 2, 1, 0, 1, 0, 0, 0, 12] := by decide

/-- R61: face DOWN sends pins 3 and 9 to 40 and 46, spindle 2 to spindle 3. -/
theorem test_mirror :
    (resolve ⟨.kind 2, [3, 9], false, [.i2]⟩ 2 2 true).pins = [40, 46] ∧
    (resolve ⟨.kind 2, [3, 9], false, [.i2]⟩ 2 2 true).spindles = [.i3] := by decide

/-- R5: after 65535 the expected sequence is 0. -/
theorem test_sequence_wraps : (65535#16 : Half) + 1 = 0 := by decide

/-- No word of the table spells a command: the table gives no bits. -/
theorem test_no_word_spells : decodeTableWord 8 0 = none ∧ decodeTableWord 32 7 = none := by decide

/-! ### Steps, reset, deadlines -/

theorem hyp_LocksStandUntilReset :
    (∃ (s t : State) (rest : List Instr), s.pending = .referenceTick true :: rest ∧ step s = .next t ∧
      s.timebase.state ≠ .unset) ∧
    (∃ (s t : State) (rest : List Instr), s.pending = .guardClose .drill :: rest ∧ step s = .next t ∧
      s.stations.lock = true) :=
  ⟨⟨{ state (on .run) with pending := [.referenceTick true] }, _, [], rfl, rfl, by decide⟩,
    ⟨{ state (part.onStations fun x => { x with lock := true }) with pending := [.guardClose .drill] }, _, [], rfl, rfl,
      by decide⟩⟩

/-- The part that a command from outside finds. -/
def found (p : Part) : Part := (state p).toPart.settle

/-- Book 7, OPEN in pocket A, with its first leaf, which is in the queue at a stage. -/
def agreed (st : Stage) (l : LineState) : Part :=
  { on l with
    tracker := { part.tracker with queue := [entry st], nextId := 1 }
    books := ⟨[{ book .opened with admitted := 1, inQueue := 1, lastLeaf := 1, pocket := some .a }], [], some 7⟩
    closer := { part.closer with pocketA := ⟨.gathering, some 7⟩ } }

/-- Book 7, a single leaf, in the hands of the closer, which is in EJECT. -/
def binding : Part :=
  { on .run with
    tracker := { part.tracker with nextId := 1 }
    books := ⟨[{ book .closing with expected := 1, admitted := 1, gathered := 1, inQueue := 0, pocket := some .a }], [], none⟩
    closer := { part.closer with state := .eject, current := some ⟨.a, 7⟩, pocketA := ⟨.binding, some 7⟩ } }

theorem test_agreed_parts :
    ((agreed .waiting .halt).PocketsHeld ∧ (agreed .waiting .halt).BooksSound) ∧
    ((agreed .atPunch .run).PocketsHeld ∧ (agreed .atPunch .run).BooksSound) ∧
    (binding.PocketsHeld ∧ binding.BooksSound) :=
  ⟨⟨⟨by decide, by intro k; cases k <;> decide, by
        intro k n h
        cases k <;> cases h
        decide, by
        intro b h k
        cases List.mem_singleton.1 h
        cases k <;> decide, by decide, by intro k; cases k <;> decide⟩,
      ⟨by unfold Part.RecordSound; decide, by decide, by decide, by decide, by decide, by decide, by decide,
        fun h => absurd h (by decide), fun _ => rfl, fun h => absurd rfl h⟩⟩,
    ⟨⟨by decide, by intro k; cases k <;> decide, by
        intro k n h
        cases k <;> cases h
        decide, by
        intro b h k
        cases List.mem_singleton.1 h
        cases k <;> decide, by decide, by intro k; cases k <;> decide⟩,
      ⟨by unfold Part.RecordSound; decide, by decide, by decide, by decide, by decide, by decide, by decide,
        fun h => absurd h (by decide), fun _ => rfl, fun h => absurd rfl h⟩⟩,
    ⟨⟨by decide, by intro k; cases k <;> decide, by
        intro k n h
        cases k <;> cases h
        decide, by
        intro b h k
        cases List.mem_singleton.1 h
        cases k <;> decide, by decide, by intro k; cases k <;> decide⟩,
      ⟨by unfold Part.RecordSound; decide, by decide, by decide, by decide, by decide, by decide, by decide,
        fun h => absurd h (by decide), fun h => absurd h (by decide),
        fun _ => ⟨⟨.a, 7⟩, _, rfl, rfl, rfl, by decide⟩⟩⟩⟩

/-- The last clause, with `test_agreed_parts`, meets what the statements on pockets and books ask. -/
theorem hyp_StepInvariants :
    (∃ t : State, State.reset.toPart.BlankKept ∧ State.reset.toPart.RunsValid ∧ step State.reset = .next t) ∧
    (∃ t : State, (on .run).RunsValid ∧
      step { state (on .run) with pending := [.referenceTick false] } = .next t) ∧
    (∃ t : State, (queued [entry .atPunch, entry .waiting] (on .run)).OneAtEach ∧
      step { state (queued [entry .atPunch, entry .waiting] (on .run)) with pending := [.ramUp] } = .next t) ∧
    (∃ t : State, (agreed .atPunch .run).StagesInOrder ∧
      step { state (agreed .atPunch .run) with pending := [.externalStop] } = .next t) :=
  ⟨⟨_, by unfold Part.BlankKept; decide, by unfold Part.RunsValid; decide, rfl⟩,
    ⟨_, by unfold Part.RunsValid; decide, rfl⟩, ⟨_, by unfold Part.OneAtEach; decide, rfl⟩,
    ⟨_, by unfold Part.StagesInOrder; decide, rfl⟩⟩

theorem hyp_StepKeepsQueueOrder :
    (∃ t : State, (queued [entry .atPunch, entry .waiting] (on .run)).StagesInOrder ∧
      step { state (queued [entry .atPunch, entry .waiting] (on .run)) with pending := [.entrySensor false] } = .next t) ∧
    (∃ t : State, (queued [entry .done, entry .waiting] (on .halt)).StagesInOrder ∧
      step { state (queued [entry .done, entry .waiting] (on .halt)) with pending := [.ramUp] } = .next t) :=
  ⟨⟨_, by unfold Part.StagesInOrder; decide, rfl⟩, ⟨_, by unfold Part.StagesInOrder; decide, rfl⟩⟩

theorem hyp_StepCapacityAndCounts :
    (∃ t : State, State.reset.toPart.WithinCapacity ∧ step State.reset = .next t) ∧
    (∃ t : State, State.reset.toPart.UseCountsExact ∧ step State.reset = .next t) :=
  ⟨⟨_, by unfold Part.WithinCapacity; decide, rfl⟩, ⟨_, by unfold Part.UseCountsExact; decide, rfl⟩⟩

theorem hyp_DeadlinePassed :
    passed 0 0x7FFFFFFF = true ∧ passed 0 0x80000000 = false ∧ passed 5 5 = false ∧ passed 0xFFFFFFFF 0 = true ∧
    (∃ (p : Part) (seg : Segment) (d : Deadline) (e : Entry), p.slot seg = some (d, e) ∧ p.sup.line ≠ .halt) ∧
    (∀ x ∈ [SpindleState.plunge, .dwell, .retract], ∃ (p : Part) (i : Idx4) (d : Count),
      (p.spindle i).deadline = some d ∧ (p.spindle i).state = x) ∧
    (∀ x ∈ [PunchState.strike, .ramReturn], ∃ (p : Part) (d : Count), p.punch.deadline = some d ∧ p.punch.state = x ∧
      p.sup.line ≠ .halt) ∧
    (∀ x ∈ [CloserState.eject, .dump], ∃ (p : Part) (d : Count), p.closer.deadline = some d ∧ p.closer.state = x) ∧
    Part.bindState .eject = true :=
  ⟨by decide, by decide, by decide, by decide,
    ⟨queued [{ entry .entered with deadline := some ⟨.position, 9⟩ }] part, .leadIn, _, _, rfl, by decide⟩,
    fun x _ => ⟨spun (fun y => { y with state := x, deadline := some 9 }) part, .i2, 9, rfl, rfl⟩,
    fun x _ => ⟨punched (fun y => { y with state := x, deadline := some 9 }) part, 9, rfl, rfl, by
      simp [punched, part, Part.reset, Part.onPunch]⟩,
    fun x _ => ⟨bound (fun y => { y with state := x, deadline := some 9 }) part, 9, rfl, rfl⟩, rfl⟩

/-! ### Requests -/

theorem hyp_ReadAndUnknownRequestsComplete :
    (∀ b ∈ [[(1 : Byte)], [2, 0, 1], [2, 23, 4], [5], [6], [7]], (asked b part).toPart.executable = some (item b) ∧
      (item b).ticket.body = b) ∧
    (∃ (s : State) (it : Item) (b : Book), s.toPart.executable = some it ∧ it.ticket.body = [3, 0, 7] ∧
      s.toPart.book? (nat2 0 7) = some b) ∧
    (∃ (s : State) (it : Item), s.toPart.executable = some it ∧ it.ticket.body = [4, 63] ∧
      s.toPart.pattern? (63 : Byte).toNat = none) ∧
    (∃ (s : State) (it : Item) (d : PatternDef), s.toPart.executable = some it ∧ it.ticket.body = [4, 0] ∧
      s.toPart.pattern? (0 : Byte).toNat = some d) ∧
    (∃ (s : State) (it : Item), s.toPart.executable = some it ∧ it.ticket.code ∉
      [1, 2, 3, 4, 5, 6, 7, 16, 17, 18, 19, 20, 21, 32, 33, 34, 35, 36, 37, 38, 39, 40, 41, 42, 48, 49] ∧
      it.ticket.body = [] ∧ (item [50]).ticket.code = 50) :=
  ⟨by decide, ⟨asked [3, 0, 7] (shelf [book .opened] part), item [3, 0, 7], book .opened, by decide⟩,
    ⟨asked [4, 63] part, item [4, 63], by decide⟩, ⟨asked [4, 0] part, item [4, 0], .blank, by decide⟩,
    ⟨asked [] part, item [], by decide⟩⟩

theorem hyp_ReadAndUnknownRequestsComplete_refused :
    (∀ b ∈ [[(2 : Byte), 24, 1], [2, 0, 0], [2, 23, 5], [3, 0, 7], [4, 64], [1, 0], [2, 0], [3], [4], [5, 0], [6, 0],
        [7, 0], [18, 0], [20, 0], [21, 0], [48], [49]], (asked b part).toPart.executable = some (item b)) ∧
    23 < (24 : Byte).toNat ∧ (0 : Byte).toNat = 0 ∧ 4 < (5 : Byte).toNat ∧ 63 < (64 : Byte).toNat ∧
    (asked [3, 0, 7] part).toPart.book? (nat2 0 7) = none := by decide

/-- The bytes of READ PATTERN for an EMPTY entry and for the blank one: each of the four fields has a presence byte. -/
theorem test_pattern_fields :
    Part.patternFields none = [0, 0, 0, 0] ∧ Part.patternFields (some .blank) = [1, 8, 1, 0, 1, 2, 1, 0] := by decide

theorem hyp_RunAndStopComplete :
    (∃ (s : State) (it : Item), s.toPart.executable = some it ∧ it.ticket.body = [16] ∧ s.sup.line = .idle ∧
      s.toPart.runCondition = none ∧ s.sup.pocketWait = false ∧
      (s.toPart.popCommand.onSup fun u => { u with line := .run }).takeable = none) ∧
    (∃ (s : State) (it : Item), s.toPart.executable = some it ∧ it.ticket.body = [16] ∧ s.sup.line = .idle ∧
      s.toPart.runCondition = none ∧ s.sup.pocketWait = true ∧ s.toPart.hasStage .atGate = true) ∧
    (∀ b ∈ [(16 : Byte), 17], ∀ l ∈ [LineState.run, .hold, .idle],
      (asked [b] (on l)).toPart.executable = some (item [b]) ∧ (asked [b] (on l)).sup.line = l) :=
  ⟨⟨asked [16] (on .idle), item [16], by decide⟩,
    ⟨asked [16] (queued [entry .atGate] (supped (fun u => { u with pocketWait := true }) (on .idle))), item [16],
      by decide⟩, by decide⟩

theorem hyp_RunAndStopRefused :
    (∃ (s : State) (it : Item), s.toPart.executable = some it ∧ it.ticket.body = [16] ∧ s.sup.line = .halt) ∧
    (∃ (s : State) (it : Item), s.toPart.executable = some it ∧ it.ticket.body = [16] ∧ s.sup.line = .idle ∧
      s.timebase.state ≠ .valid ∧ s.toPart.runCondition = some (.timebase .lost)) ∧
    (∃ (s : State) (it : Item), s.toPart.executable = some it ∧ it.ticket.body = [16] ∧ s.sup.line = .idle ∧
      s.timebase.state = .valid ∧ s.sup.supplyLow = true) ∧
    (∃ (s : State) (it : Item), s.toPart.executable = some it ∧ it.ticket.body = [16] ∧ s.sup.line = .idle ∧
      s.timebase.state = .valid ∧ s.sup.supplyLow = false ∧ s.sup.driverShutdown = true) ∧
    (∃ (s : State) (it : Item), s.toPart.executable = some it ∧ it.ticket.body = [17] ∧ s.sup.line = .halt) :=
  ⟨⟨asked [16] (on .halt), item [16], by decide⟩, ⟨asked [16] (clock .lost part), item [16], by decide⟩,
    ⟨asked [16] (supped (fun u => { u with supplyLow := true }) (on .idle)), item [16], by decide⟩,
    ⟨asked [16] (supped (fun u => { u with driverShutdown := true }) (on .idle)), item [16], by decide⟩,
    ⟨asked [17] (on .halt), item [17], by decide⟩⟩

theorem hyp_RunAndStopRefused_length : ∀ b ∈ [[(16 : Byte), 0], [17, 0]], ∀ l ∈ [LineState.idle, .halt],
    (asked b (on l)).toPart.executable = some (item b) ∧ (item b).ticket.body.length ≠ 1 := by decide

theorem hyp_HaltCompletes :
    (∃ (s : State) (it : Item), s.toPart.executable = some it ∧ it.ticket.body = [18] ∧ s.sup.line ≠ .halt) ∧
    (∃ (s : State) (it : Item), s.toPart.executable = some it ∧ it.ticket.body = [18] ∧ s.sup.line = .halt ∧
      s.sup.secondary = none) ∧
    (∃ (s : State) (it : Item), s.toPart.executable = some it ∧ it.ticket.body = [18] ∧ s.sup.line = .halt ∧
      s.sup.secondary ≠ none) :=
  ⟨⟨asked [18] (on .run), item [18], by decide⟩, ⟨asked [18] (on .halt), item [18], by decide⟩,
    ⟨asked [18] (supped (fun u => { u with secondary := some ⟨.ramStuck, none⟩ }) (on .halt)), item [18], by decide⟩⟩

theorem hyp_ResumeCompletes :
    (∃ (s : State) (it : Item), s.toPart.executable = some it ∧ it.ticket.body = [19, 1] ∧ s.sup.line = .halt ∧
      s.toPart.resumeCondition = none) ∧
    (∃ (s : State) (it : Item), s.toPart.executable = some it ∧ it.ticket.body = [19, 2] ∧ s.sup.line = .halt ∧
      s.toPart.resumeCondition = none ∧ s.toPart = { agreed .waiting .halt with cmd := s.cmd }) ∧
    (∃ (s : State) (it : Item), s.toPart.executable = some it ∧ it.ticket.body = [19, 1] ∧ s.sup.line ≠ .halt) ∧
    (∃ (s : State) (it : Item), s.toPart.executable = some it ∧ it.ticket.body = [19, 3] ∧ s.sup.line = .halt) ∧
    (∃ (s : State) (it : Item), s.toPart.executable = some it ∧ it.ticket.body = [19, 1, 1]) ∧
    (∃ (s : State) (it : Item), s.toPart.executable = some it ∧ it.ticket.body = [19, 2] ∧ s.sup.line = .halt ∧
      s.toPart.resumeCondition = some .supplyLow) :=
  ⟨⟨asked [19, 1] (on .halt), item [19, 1], by decide⟩, ⟨asked [19, 2] (agreed .waiting .halt), item [19, 2], by decide⟩,
    ⟨asked [19, 1] (on .run), item [19, 1], by decide⟩, ⟨asked [19, 3] (on .halt), item [19, 3], by decide⟩,
    ⟨asked [19, 1, 1] (on .halt), item [19, 1, 1], by decide⟩,
    ⟨asked [19, 2] (supped (fun u => { u with supplyLow := true }) (on .halt)), item [19, 2], by decide⟩⟩

theorem hyp_ClearFaultsCompletes :
    (∀ up ∈ [true, false], ∀ l ∈ [LineState.run, .hold],
      let p := (asked [20] (punched (fun x => { x with state := .fault, ramUpLevel := up }) (on l))).toPart
      p.executable = some (item [20]) ∧ p.punch.state = .fault ∧ p.punch.ramUpLevel = up ∧ p.sup.line = l ∧
      p.closer.state ≠ .fault) ∧
    (let b := { book .spoiled with gathered := 2, inQueue := 0, pocket := some .a }
     let p := (asked [20] (shelf [b] (bound (fun c => { c with
       state := .fault, current := some ⟨.a, 7⟩, pocketA := ⟨.binding, some 7⟩ }) part))).toPart
     p.executable = some (item [20]) ∧ p.closer.state = .fault ∧ p.closer.current = some ⟨.a, 7⟩ ∧
       p.book? 7 = some b ∧ p.punch.state ≠ .fault) := by decide

theorem hyp_ResetExecutes :
    (∀ st ∈ [PunchState.idle, .engage, .strike, .ramReturn, .fault], ∀ up ∈ [true, false],
      let p := (asked [21] (punched (fun x => { x with state := st, ramUpLevel := up }) part)).toPart
      p.executable = some (item [21]) ∧ p.punch.state = st ∧ p.punch.ramUpLevel = up) ∧
    (∀ st ∈ [SpindleState.idle, .fault, .plunge, .dwell, .retract, .done], ∀ up ∈ [true, false],
      let p := (asked [21] (spun (fun x => { x with state := st, upLevel := up }) part)).toPart
      p.executable = some (item [21]) ∧ (p.spindle .i2).state = st ∧ (p.spindle .i2).upLevel = up) ∧
    (let p := (asked [21] part).toPart
     p.executable = some (item [21]) ∧ p.tracker.queue = [] ∧ p.books.records = [] ∧ p.drill.cycle = []) ∧
    (let p := (asked [21] (agreed .waiting .idle)).toPart
     p.executable = some (item [21]) ∧ p.tracker.queue ≠ [] ∧ (p.books.records.filter fun b => b.state != .ended) ≠ []) ∧
    (let p := (asked [21] (part.onBooks fun t => { t with records := [book .ended], endOrder := [0] })).toPart
     p.executable = some (item [21]) ∧ p.tracker.queue = [] ∧ p.books.endOrder.getLast? = some 0 ∧
       p.recordById? 0 = some (book .ended)) := by decide

/-- RESET leaves the cycle of spindle 2 with none in RETRACT, and its DONE spindle IDLE, where it is DONE or is drawn up
with spindle-up showing; one still in RETRACT keeps the cycle open. -/
theorem hyp_ResetExecutes_cycle :
    ∀ x ∈ [(SpindleState.done, false, SpindleState.idle), (.plunge, true, .idle), (.dwell, true, .idle),
        (.fault, false, .fault), (.plunge, false, .retract), (.dwell, false, .retract), (.retract, false, .retract)],
      let p := (asked [21] (drilled (fun d => { d with cycle := [.i2] })
        (spun (fun y => { y with state := x.1, upLevel := x.2.1, deadline := some 0 }) part))).toPart
      p.executable = some (item [21]) ∧ p.drill.cycle ≠ [] ∧
        (match exec .reset (state p) with
          | .next t => ((t.toPart.spindle .i2).state, t.drill.cycle.isEmpty)
          | _ => (.idle, false)) = (x.2.2, x.2.2 != .retract) := by decide

theorem hyp_ResetCompletesStep :
    ∃ (s : State) (it : Item) (rest : List Item) (r : ResetProgress), s.cmd = ⟨it :: rest, some r⟩ ∧
      (∀ e ∈ s.tracker.queue, r.entry ≠ some e.id) ∧ (∀ b ∈ s.books.records, r.record ≠ some b.id) :=
  ⟨state { part with cmd := ⟨[item [21]], some ⟨some 4, some 2, true, 1, 1⟩⟩ }, item [21], [], ⟨some 4, some 2, true, 1, 1⟩,
    by decide⟩

/-- A definition with every field in its range, and its neighbours just out of it. -/
theorem hyp_LoadPatternCompletes :
    (∀ n ∈ [(1 : Byte), 63],
      let b : List Byte := [32, n, 7, 1, 2] ++ [1, 48] ++ 2 :: [4, 1]
      (asked b part).toPart.executable = some (item b) ∧ part.useCount n.toNat = 0 ∧
        (asked b (part.raiseUse n.toNat)).toPart.executable = some (item b) ∧ 0 < (part.raiseUse n.toNat).useCount n.toNat) ∧
    ([(1 : Byte), 48].map BitVec.toNat).Pairwise (· < ·) ∧ [(4 : Byte), 1].Nodup ∧
    ¬([(9 : Byte), 9].map BitVec.toNat).Pairwise (· < ·) ∧ ¬[(4 : Byte), 4].Nodup ∧
    (∀ b ∈ [[(32 : Byte), 0, 2, 1, 0, 0], [32, 64, 2, 1, 0, 0], [32, 1, 8, 1, 0, 0], [32, 1, 2, 3, 0, 0],
        [32, 1, 2, 1, 1, 49, 0], [32, 1, 2, 1, 2, 9, 9, 0], [32, 1, 2, 1, 0, 1, 5], [32, 1, 2]],
      (asked b part).toPart.executable = some (item b)) ∧
    ¬∃ (number die notch n m : Byte) (pins spindles : List Byte),
      [(32 : Byte), 1, 2] = [32, number, die, notch, n] ++ pins ++ m :: spindles :=
  ⟨by decide, by decide, by decide, by decide, by decide, by decide, by rintro ⟨a, b, c, d, e, l, k, h⟩; simp at h⟩

/-- Leaf 2 of book 7, naming pattern 1, which is EMPTY after reset. -/
def emptied : SheetFields := { sheetFields nextSheet.body with pattern := 1 }

theorem hyp_ClearPatternOutcomes :
    (∃ (s : State) (it : Item), s.toPart.executable = some it ∧ it.ticket.code = 33 ∧ it.ticket.body.length ≠ 2) ∧
    (∀ n ∈ [(0 : Byte), 64], ∃ (s : State) (it : Item), s.toPart.executable = some it ∧ it.ticket.body = [33, n]) ∧
    (∃ (s : State) (it : Item), s.toPart.executable = some it ∧ it.ticket.body = [33, 63] ∧
      0 < s.toPart.useCount 63) ∧
    (∃ (s : State) (it : Item), s.toPart.executable = some it ∧ it.ticket.body = [33, 1] ∧ s.toPart.useCount 1 = 0) ∧
    (∃ (r : Part) (b : Book), r.pattern? emptied.pattern = none ∧ r.tailRecord emptied.book = some b ∧
      b.admitted < b.expected ∧ emptied.leaf = b.lastLeaf + 1) ∧
    (∃ (r : Part) (h : BookHeader), r.pattern? emptied.pattern = none ∧ r.tailRecord emptied.book = none ∧
      { emptied with leaf := 1, header := some h }.header = some h ∧ r.book? emptied.book = none ∧
      r.books.records.length < 12 ∧ r.closer.wireClass = h.wireClass ∧ h.wireClass ≠ 0) :=
  ⟨⟨asked [33] part, item [33], by decide⟩, by
      intro n h
      simp only [List.mem_cons, List.not_mem_nil, or_false] at h
      rcases h with rfl | rfl
      · exact ⟨asked [33, 0] part, item [33, 0], by decide⟩
      · exact ⟨asked [33, 64] part, item [33, 64], by decide⟩,
    ⟨asked [33, 63] (part.raiseUse 63), item [33, 63], by decide⟩, ⟨asked [33, 1] part, item [33, 1], by decide⟩,
    ⟨part.onBooks fun t => { t with records := [{ book .opened with admitted := 1, lastLeaf := 1 }], tailBook := some 7 },
      { book .opened with admitted := 1, lastLeaf := 1 }, by decide⟩,
    ⟨bound (fun c => { c with wireClass := 1 }) part, ⟨2, 1, 20, 2⟩, by decide⟩⟩

/-- Settings at both ends of their ranges, one beyond them, and bodies of another length, in every line state. -/
theorem hyp_SettingRequestsComplete :
    (∀ l ∈ [LineState.idle, .halt, .run, .hold],
      ∀ b ∈ [[(34 : Byte), 0, 10, 3, 232], [34, 0, 9, 3, 232], [34, 0, 10, 3, 233], [34, 0, 10, 3],
        [35, 4, 2, 8, 7, 208, 3, 232, 0, 10], [35, 1, 1, 2, 0, 10, 0, 0, 7, 208], [35, 1, 3, 2, 0, 10, 0, 0, 7, 208],
        [35, 0, 1, 2, 0, 10, 0, 0, 7, 208], [35, 5, 1, 2, 0, 10, 0, 0, 7, 208], [35, 1],
        [42, 4, 1, 0, 1, 0, 1], [42, 1, 0, 1, 0, 1, 0], [42, 5, 0, 0, 0, 0, 0], [42, 1, 2, 0, 0, 0, 0], [42]],
      (asked b (on l)).toPart.executable = some (item b) ∧ (asked b (on l)).sup.line = l) ∧
    nat2 0 10 = 10 ∧ nat2 3 232 = 1000 ∧ nat2 0 9 = 9 ∧ nat2 3 233 = 1001 ∧ nat2 7 208 = 2000 ∧
    (1 : Byte).toNat = Idx4.i1.toNat ∧ (4 : Byte).toNat = Idx4.i4.toNat ∧ 4 < (5 : Byte).toNat := by decide

theorem hyp_MapSpindlesOutcomes :
    (∃ (s : State) (it : Item), s.toPart.executable = some it ∧ it.ticket.code = 36 ∧ it.ticket.body.length ≠ 5) ∧
    (∃ (s : State) (it : Item), s.toPart.executable = some it ∧ it.ticket.body = [36, 1, 1, 1, 1] ∧ s.sup.line = .hold) ∧
    (∃ (s : State) (it : Item), s.toPart.executable = some it ∧ it.ticket.body = [36, 1, 0, 5, 1] ∧ s.sup.line = .idle) ∧
    (∃ (s : State) (it : Item), s.toPart.executable = some it ∧ it.ticket.body = [36, 1, 4, 1, 2] ∧
      s.sup.line = .halt ∧ (1 : Byte).toNat = Idx4.i1.toNat ∧ (4 : Byte).toNat = Idx4.i4.toNat) :=
  ⟨⟨asked [36] part, item [36], by decide⟩, ⟨asked [36, 1, 1, 1, 1] (on .hold), item [36, 1, 1, 1, 1], by decide⟩,
    ⟨asked [36, 1, 0, 5, 1] part, item [36, 1, 0, 5, 1], by decide⟩,
    ⟨asked [36, 1, 4, 1, 2] (on .halt), item [36, 1, 4, 1, 2], by decide⟩⟩

/-- A SET CLOSER body with every window at an end of its range. -/
def closerBody : List Byte := [37, 4, 0, 10, 7, 208, 1, 244, 0, 10, 0, 10, 0, 10, 19, 136]

/-- The widest settings; a clamp window of 9 and a class of 5 are out of range. -/
theorem hyp_SetCloserCompletes :
    (∀ b ∈ [closerBody, closerBody.set 3 9, closerBody.set 1 5, [37, 1]], ∀ l ∈ [LineState.idle, .halt, .run, .hold],
      ∀ records ∈ [[], [book .opened]],
      (asked b (shelf records (on l))).toPart.executable = some (item b) ∧ (on l).sup.line = l ∧
        (shelf records (on l)).books.records = records) ∧
    (let h (i : Nat) : Nat := nat2 (closerBody.getD (2 * i + 2) 0) (closerBody.getD (2 * i + 3) 0)
     (List.range 7).map h = [10, 2000, 500, 10, 10, 10, 5000]) ∧
    closerBody.length = 16 ∧ (4 : Byte).toNat ≠ part.closer.wireClass := by decide

/-- A SET TIMEBASE body. -/
def timebaseBody : List Byte := [38, 64, 3, 0, 50, 7, 208, 0, 50, 11, 184]

/-- The widest settings; a scale of 65, an edge of 4 and a lead-in of 49 are out of range. -/
theorem hyp_TimebaseRequestsComplete :
    (∀ b ∈ [timebaseBody, timebaseBody.set 1 65, timebaseBody.set 2 4, timebaseBody.set 4 49, [38], [39], [39, 0]],
      (asked b part).toPart.executable = some (item b) ∧ (asked b (on .run)).toPart.executable = some (item b)) ∧
    part.timebase.state = .unset ∧ (on .run).timebase.state ≠ .unset ∧ timebaseBody.length = 11 ∧
    nat2 0 50 = 50 ∧ nat2 0 49 = 49 ∧ nat2 7 208 = 2000 ∧ nat2 11 184 = 3000 := by decide

/-- A punch in ENGAGE with a sheet that it holds. -/
def engaged (p : Part) : Part :=
  punched (fun x => { x with state := .engage, engaged := [1, 49], held := true }) (queued [entry .atPunch] p)

/-- Each body in each line state, with the timebase VALID and not, with and without the lock; the punch in ENGAGE for the
sheet at its stops, and its station no longer effective after the request. -/
theorem hyp_StationRequestsComplete :
    (∀ b ∈ [[(40 : Byte), 1, 0, 1], [40, 0, 0, 0], [40, 1, 2, 0], [40], [41, 1, 0, 0, 1], [41, 0, 0, 0, 2], [41]],
      ∀ l ∈ [LineState.idle, .halt, .run, .hold], ∀ t ∈ [TimebaseState.valid, .lost], ∀ locked ∈ [true, false],
      let p := (asked b ((line l (clock t (engaged part))).onStations fun x => { x with lock := locked })).toPart
      p.executable = some (item b) ∧ p.sup.line = l ∧ p.timebase.state = t ∧ p.stations.lock = locked ∧
        p.punch.state = .engage ∧ p.punch.held = true ∧ p.tracker.queue = [] ++ entry .atPunch :: []) ∧
    ({ activated part with stations := ⟨⟨true, true, true⟩, ⟨true, false, false⟩, false, .none⟩ } : Part).effective .punch =
      false ∧
    (activated part).effective .punch = true := by decide

theorem hyp_AmendBookCompletes :
    (∃ (s : State) (it : Item) (b : Book), s.toPart.executable = some it ∧ it.ticket.body = [48, 0, 7, 5, 60] ∧
      s.toPart.book? (nat2 0 7) = some b ∧ b.generation ≠ 5) ∧
    (∃ (s : State) (it : Item) (b : Book), s.toPart.executable = some it ∧ it.ticket.body = [48, 0, 7, 4, 60] ∧
      s.toPart.book? (nat2 0 7) = some b ∧ b.generation = 4 ∧ b.state = .closing) ∧
    (∃ (s : State) (it : Item) (b : Book), s.toPart.executable = some it ∧ it.ticket.body = [48, 0, 7, 4, 60] ∧
      s.toPart.book? (nat2 0 7) = some b ∧ b.generation = 4 ∧ s.toPart.loaded b = true) ∧
    (∀ l ∈ [(5 : Byte), 6, 60, 61], ∃ (s : State) (it : Item) (b : Book), s.toPart.executable = some it ∧
      it.ticket.body = [48, 0, 7, 4, l] ∧ s.toPart.book? (nat2 0 7) = some b ∧ b.generation = 4 ∧ b.state = .ready ∧
      s.toPart.loaded b = false) :=
  ⟨⟨asked [48, 0, 7, 5, 60] (shelf [book .opened] part), item [48, 0, 7, 5, 60], book .opened, by decide⟩,
    ⟨asked [48, 0, 7, 4, 60] (shelf [book .closing] part), item [48, 0, 7, 4, 60], book .closing, by decide⟩,
    ⟨asked [48, 0, 7, 4, 60] (bound (fun c => { c with active := some ⟨20, 7, 0, .atCut⟩ }) (shelf [book .ready] part)),
      item [48, 0, 7, 4, 60], book .ready, by decide⟩, by
      intro l h
      simp only [List.mem_cons, List.not_mem_nil, or_false] at h
      rcases h with rfl | rfl | rfl | rfl
      · exact ⟨asked [48, 0, 7, 4, 5] (shelf [book .ready] part), item [48, 0, 7, 4, 5], book .ready, by decide⟩
      · exact ⟨asked [48, 0, 7, 4, 6] (shelf [book .ready] part), item [48, 0, 7, 4, 6], book .ready, by decide⟩
      · exact ⟨asked [48, 0, 7, 4, 60] (shelf [book .ready] part), item [48, 0, 7, 4, 60], book .ready, by decide⟩
      · exact ⟨asked [48, 0, 7, 4, 61] (shelf [book .ready] part), item [48, 0, 7, 4, 61], book .ready, by decide⟩⟩

theorem hyp_CancelBookCompletes :
    (∃ (s : State) (it : Item), s.toPart.executable = some it ∧ it.ticket.body = [49, 0, 7] ∧
      s.toPart.book? (nat2 0 7) = none) ∧
    (∀ x ∈ [(BookState.ended, LineState.idle), (.closing, .run), (.filled, .run), (.opened, .halt), (.ready, .idle),
        (.spoiled, .idle), (.spoiled, .run)],
      let p := (asked [49, 0, 7] (shelf [book x.1] (on x.2))).toPart
      p.executable = some (item [49, 0, 7]) ∧ p.book? (nat2 0 7) = some (book x.1) ∧ (book x.1).state = x.1 ∧
      p.sup.line = x.2) :=
  ⟨⟨asked [49, 0, 7] part, item [49, 0, 7], by decide⟩, by decide⟩

/-! ### The link -/

/-- A part whose receive buffer holds some tickets. -/
def held (l : List Ticket) (p : Part) : Part := ported (fun x => { x with rxBuf := l.map fun t => ⟨t, false⟩ }) p

/-- Four tickets that wait for a slot of a full output list. -/
def fourHeld : Part :=
  ported (fun x => { x with
      rxBuf := List.replicate 4 ⟨⟨5, 0, 0, 0, []⟩, false⟩
      outList := List.replicate 8 (item []) }) part

set_option maxRecDepth 8000 in
theorem hyp_TicketReceivedCompletes :
    parseTicket sheet.wire = some sheet ∧ sheet.body.length ≤ 250 ∧ parseTicket [3, 5, 0, 7, 1, 1, 0, 0] = none ∧
    TicketClose.idleSymbol ≠ .endSymbol ∧ TicketClose.invalidSymbol ≠ .endSymbol ∧
    (∀ rx ∈ [Reception.outside, .refused, .inside [], .inside [3, 5]],
      (let p := found (ported (fun x => { x with rx := rx }) part)
       p.port.rx = rx ∧ p.port.rxBuf.length < 4) ∧
      (let p := found (ported (fun x => { x with rx := rx }) fourHeld)
       p.port.rx = rx ∧ 4 ≤ p.port.rxBuf.length)) := by decide

theorem hyp_WireReadsBack : (∃ t : Ticket, t.body.length ≤ 250) ∧ (List.replicate 250 (0 : Byte)).length ≤ 250 ∧
    (item []).ticket.dest ≠ 0 ∧ (0 : Byte) = 0 ∧ parseTicket [] = none ∧
    Cause.haltRequest ∈ [Cause.supplyLow, .driverShutdown, .timebaseLost, .externalStop, .haltRequest] :=
  ⟨⟨sheet, by decide⟩, Nat.le_of_eq List.length_replicate, by decide⟩

/-- A broadcast request has destination 0: placing its reply changes nothing. -/
theorem test_broadcast_has_no_reply : part.placeReply ⟨⟨3, 0, 0, 7, [16]⟩, none⟩ .ok [] = part := by decide

set_option maxRecDepth 8000 in
theorem hyp_LinkSymbolsComplete :
    (∀ rx ∈ [Reception.outside, .refused, .inside [], .inside sheet.wire, .inside [3, 5], .inside (List.replicate 257 0)],
      let p := found (ported (fun x => { x with rx := rx }) part)
      p.port.rx = rx ∧ p.port.rxBuf.length < 4) ∧
    4 ≤ (found fourHeld).port.rxBuf.length ∧ parseTicket sheet.wire = some sheet ∧ parseTicket [3, 5] = none ∧
    [3, 5].length < 257 ∧ 257 ≤ (List.replicate 257 (0 : Byte)).length := by decide

/-- A part that has a ticket in its receive buffer, with the command list full, the output list full, or neither. -/
def waitsAt (t : Ticket) (cmdFull outFull : Bool) : Part :=
  ported (fun x => { x with outList := List.replicate (if outFull then 8 else 0) (item []) })
    { held [t] part with cmd := ⟨List.replicate (if cmdFull then 4 else 0) (item [1]), none⟩ }

theorem hyp_TicketClassifiedCompletes :
    part.port.unitAddress = 5 ∧
    (∀ fence ∈ [(0 : Byte), 1], ∀ c ∈ [true, false],
      let t : Ticket := ⟨3, 5, fence, 7, [1]⟩
      (waitsAt t c false).port.rxBuf = [⟨t, false⟩] ∧ ((waitsAt t c false).cmd.list.length < 4 ↔ c = false)) ∧
    (∀ c ∈ [true, false], ∀ o ∈ [true, false],
      let t : Ticket := ⟨3, 0, 1, 7, [18]⟩
      (waitsAt t c o).port.rxBuf = [⟨t, false⟩] ∧ t.dest = 0 ∧ t.code ∈ [16, 17, 18, 20, 21] ∧
      ((waitsAt t c o).cmd.list.length < 4 ↔ c = false) ∧ (1 ≤ (waitsAt t c o).outFree ↔ o = false)) ∧
    (∀ t ∈ [(⟨5, 0, 0, 0, []⟩ : Ticket), ⟨1, 6, 1, 0, [0, 3]⟩, ⟨3, 6, 0, 0, [18]⟩, ⟨3, 0, 1, 0, [19]⟩],
      (t.kind = 1 → t.dest.toNat ≠ 5) ∧
      (t.kind = 3 → t.dest.toNat ≠ 5 ∧ ¬(t.dest = 0 ∧ t.code ∈ [16, 17, 18, 20, 21]))) ∧
    (sheet.kind = 1 ∧ sheet.dest.toNat = 5) ∧
    ((⟨3, 5, 1, 7, [1]⟩ : Ticket).fence = true ∧ (⟨3, 5, 0, 7, [1]⟩ : Ticket).fence = false) ∧
    (∃ (s : State) (t : Ticket), s.port.rxBuf = [⟨t, true⟩] ∧ 1 ≤ s.toPart.outFree) ∧
    (∃ (s : State) (t : Ticket), s.port.rxBuf = [⟨t, true⟩] ∧ s.toPart.outFree = 0) :=
  ⟨by decide, by decide, by decide, by decide, by decide, by decide,
    ⟨state (ported (fun x => { x with rxBuf := [⟨sheet, true⟩] }) part), sheet, by decide⟩,
    ⟨state (ported (fun x => { x with rxBuf := [⟨sheet, true⟩], outList := List.replicate 8 (item []) }) part), sheet,
      by decide⟩⟩

theorem hyp_SpoilEffects :
    part.book? 7 = none ∧
    (∀ st ∈ [BookState.opened, .filled, .ready, .closing, .spoiled, .ended],
      (shelf [book st] part).book? 7 = some (book st) ∧ (book st).state = st) ∧
    SpoilReason.closerFault ≠ .lineHalt ∧ SpoilReason.cancelled ≠ .closerFault ∧ SpoilReason.cancelled ≠ .lineHalt := by
  decide

/-- A part that expects sequence 3 and mounts wire class 1, with some tickets held. -/
def admitting (l : List Ticket) : Part :=
  (bound (fun c => { c with wireClass := 1 }) (held l (on .run))).onTracker fun t => { t with expected := some 3 }

/-- Book 7, OPEN as the tail book with its first leaf admitted, and the ticket of a sheet that waits at the head. -/
def tailed (t : Ticket) (n : Nat) : Part :=
  (admitting [t]).onBooks fun x => { x with
    records := [{ book .opened with number := n, admitted := 1, lastLeaf := 1 }], tailBook := some n }

/-- What every clause about an admission asks of the part and the ticket. -/
abbrev Admissible (p : Part) (t : Ticket) : Prop :=
  p.port.rxBuf = [⟨t, false⟩] ∧ t.kind = 1 ∧ t.dest.toNat = p.port.unitAddress ∧ 1 ≤ p.port.unitAddress ∧
  p.port.unitAddress ≤ 31 ∧ p.tracker.queue.length < 24

/-- The first leaf of book 7 with another body. -/
def opening (pattern wire : Byte) : Ticket := ⟨1, 5, 0, 9, [0, 3, 0, 7, 1, 2, 1, pattern, 2, wire, 20, 2]⟩

/-- A later leaf of book 7, in the expected sequence, with a leaf index and a pattern. -/
def following (leaf pattern : Byte) : Ticket := ⟨1, 5, 0, 9, [0, 3, 0, 7, leaf, 2, 1, pattern]⟩

theorem hyp_SheetAdmittedCompletes_checks :
    (let t : Ticket := ⟨1, 5, 0, 9, [3]⟩
     Admissible (admitting [t]) t ∧ t.body.length < 2) ∧
    (Admissible (admitting [badSheet]) badSheet ∧ (admitting [badSheet]).tracker.expected = some 3 ∧
      (sheetFields badSheet.body).sequence = 3 ∧ fieldCheck (sheetFields badSheet.body) = some .badField) ∧
    (let p := (admitting [sheet]).onTracker fun x => { x with expected := none, queue := [{ entry .done with sequence := 2 }] }
     Admissible p sheet ∧ p.tracker.expected = none ∧ p.tracker.queue.getLast?.map Entry.sequence = some 2) ∧
    (∀ leaf ∈ [2, 3], ∀ n ∈ [0, 1],
      let t := following leaf n
      let f := sheetFields t.body
      Admissible (tailed t 7) t ∧ (tailed t 7).tracker.expected = some f.sequence ∧ fieldCheck f = none ∧
      (tailed t 7).books.tailBook = some f.book ∧ ((tailed t 7).book? f.book).isSome = true ∧
      (f.leaf = 2 ↔ leaf = 2) ∧ (((tailed t 7).pattern? f.pattern).isSome = true ↔ n = 0)) :=
  ⟨by decide, by decide, by decide, by decide⟩

/-- Bodies that fail R6's checks, one field at a time, one byte past its range; bodies at the ends of the ranges; and the
two ways a header and leaf 1 disagree. -/
theorem hyp_SheetAdmittedCompletes_fields :
    (∀ b ∈ [[(0 : Byte), 3, 0, 7, 61, 2, 1, 0], [0, 3, 0, 7, 2, 0, 1, 0], [0, 3, 0, 7, 2, 4, 1, 0], [0, 3, 0, 7, 2, 2, 3, 0],
        [0, 3, 0, 7, 2, 2, 1, 64], [0, 3, 0, 0, 2, 2, 1, 0], [0, 3, 0, 7, 2, 2, 1], [0, 3, 0, 7, 1, 2, 1, 0, 1, 1, 6, 1],
        [0, 3, 0, 7, 1, 2, 1, 0, 61, 1, 6, 1], [0, 3, 0, 7, 1, 2, 1, 0, 2, 5, 6, 1], [0, 3, 0, 7, 1, 2, 1, 0, 2, 1, 5, 1],
        [0, 3, 0, 7, 1, 2, 1, 0, 2, 1, 61, 1], [0, 3, 0, 7, 1, 2, 1, 0, 2, 1, 6, 3]],
      let t : Ticket := ⟨1, 5, 0, 9, b⟩
      Admissible (admitting [t]) t ∧ fieldCheck (sheetFields b) = some .badField) ∧
    (∀ b ∈ [[(0 : Byte), 3, 0, 7, 1, 2, 1, 0], [0, 3, 0, 7, 2, 2, 1, 0, 2, 1, 6, 1]],
      let t : Ticket := ⟨1, 5, 0, 9, b⟩
      Admissible (admitting [t]) t ∧ fieldCheck (sheetFields b) = some .noHeader) ∧
    (∀ b ∈ [[(0 : Byte), 3, 255, 255, 60, 3, 2, 63], [0, 3, 0, 1, 1, 1, 1, 0, 60, 4, 60, 2]],
      let t : Ticket := ⟨1, 5, 0, 9, b⟩
      Admissible (admitting [t]) t ∧ fieldCheck (sheetFields b) = none) :=
  ⟨by decide, by decide, by decide⟩

theorem hyp_SheetAdmittedCompletes_opening :
    (∀ pattern ∈ [0, 1], ∀ wire ∈ [1, 2], ∀ n ∈ [7, 8],
      let t := opening pattern wire
      let f := sheetFields t.body
      let p := (tailed t n).onBooks fun b => { b with tailBook := if n = 8 then some 8 else none }
      Admissible p t ∧ p.tracker.expected = some f.sequence ∧ fieldCheck f = none ∧ f.header.isSome = true ∧
      p.books.tailBook ≠ some f.book ∧ ((p.book? f.book).isSome = true ↔ n = 7) ∧ p.books.records.length < 12 ∧
      ((p.pattern? f.pattern).isSome = true ↔ pattern = 0) ∧
      ((f.header.map BookHeader.wireClass = some p.closer.wireClass ∧ p.closer.wireClass ≠ 0) ↔ wire = 1)) ∧
    (let p := shelf (List.replicate 12 { book .opened with number := 8 }) (admitting [sheet])
     Admissible p sheet ∧ 12 ≤ p.books.records.length ∧ p.book? 7 = none ∧ p.books.tailBook = none) ∧
    (∀ n ∈ [7, 8],
      let t := following 2 0
      let f := sheetFields t.body
      let p := (tailed t n).onBooks fun b => { b with tailBook := if n = 8 then some 8 else none }
      Admissible p t ∧ p.tracker.expected = some f.sequence ∧ fieldCheck f = none ∧ f.header = none ∧
      p.books.tailBook ≠ some f.book ∧ ((p.book? f.book).isSome = true ↔ n = 7)) :=
  ⟨by decide, by decide, by decide⟩

theorem hyp_SequenceGapTurnsTicket :
    (∃ (s : State) (t : Ticket) (rest : List RxItem) (x : Half), s.port.rxBuf = ⟨t, false⟩ :: rest ∧ t.kind = 1 ∧
      t.dest.toNat = s.port.unitAddress ∧ 1 ≤ s.port.unitAddress ∧ s.port.unitAddress ≤ 31 ∧
      s.tracker.queue.length < 24 ∧ 2 ≤ t.body.length ∧ t.body.length ≤ 239 ∧ s.tracker.expected = some x ∧
      x ≠ (sheetFields t.body).sequence ∧ s.sup.line ≠ .halt ∧ 1 ≤ s.toPart.outFree) ∧
    (∃ (s : State) (t : Ticket) (rest : List RxItem) (x : Half), s.port.rxBuf = ⟨t, false⟩ :: rest ∧ t.kind = 1 ∧
      t.dest.toNat = s.port.unitAddress ∧ s.tracker.queue.length < 24 ∧ s.tracker.expected = some x ∧
      x ≠ (sheetFields t.body).sequence ∧ s.sup.line = .halt ∧ s.sup.secondary = none ∧ s.toPart.outFree = 0) ∧
    (∃ (s : State) (t : Ticket) (rest : List RxItem) (e : Entry), s.port.rxBuf = ⟨t, false⟩ :: rest ∧ t.kind = 1 ∧
      t.dest.toNat = s.port.unitAddress ∧ s.tracker.queue.length < 24 ∧ s.tracker.expected = none ∧
      s.tracker.queue.getLast? = some e ∧ e.sequence = (sheetFields t.body).sequence ∧ s.sup.line = .halt ∧
      s.sup.secondary ≠ none) :=
  ⟨⟨state (admitting [nextSheet]), nextSheet, [], 3, by decide⟩,
    ⟨state (line .halt (ported (fun x => { x with outList := List.replicate 8 (item []) }) (admitting [nextSheet]))),
      nextSheet, [], 3, by decide⟩,
    ⟨state (supped (fun u => { u with line := .halt, secondary := some ⟨.ramStuck, none⟩ }) ((admitting [sheet]).onTracker
      fun t => { t with expected := none, queue := [entry .waiting] })), sheet, [], entry .waiting, by decide⟩⟩

/-- With the expected sequence undefined, the sequence of the tail entry is no new start (R5). -/
theorem test_tail_sequence_halts :
    ((admitting [sheet]).onTracker fun t => { t with expected := none, queue := [entry .waiting] }).sequenceFails 3 =
      some 4 := by decide

/-- A pending notice. -/
def note : HaltNotice := ⟨.haltRequest, none, none, none, false⟩

theorem hyp_TransmitBeginCompletes :
    (∃ (s : State) (p : Part), p = s.toPart.settle ∧ p.port.downHold = true) ∧
    (∃ (s : State) (p : Part), p = s.toPart.settle ∧ p.port.sending ≠ none) ∧
    (∃ (s : State) (p : Part) (n : HaltNotice), p = s.toPart.settle ∧ p.port.downHold = false ∧ p.port.sending = none ∧
      p.sup.notice = some n) ∧
    (∃ (s : State) (p : Part) (e : Entry) (es : List Entry), p = s.toPart.settle ∧ p.port.downHold = false ∧
      p.port.sending = none ∧ p.sup.notice = none ∧ p.tracker.queue = e :: es ∧ e.stage = .done) ∧
    (∃ (s : State) (p : Part) (i : Nat) (b : Book) (ids : List Nat), p = s.toPart.settle ∧ p.port.downHold = false ∧
      p.port.sending = none ∧ p.sup.notice = none ∧ p.tracker.queue = [] ∧ p.books.endOrder = i :: ids ∧
      p.recordById? i = some b) ∧
    (∃ (s : State) (p : Part) (it : Item) (its : List Item), p = s.toPart.settle ∧ p.port.downHold = false ∧
      p.port.sending = none ∧ p.sup.notice = none ∧ p.tracker.queue = [entry .waiting] ∧ p.books.endOrder = [] ∧
      p.port.outList = it :: its ∧ p.eligible it = true) :=
  ⟨⟨state (ported (fun x => { x with downHold := true }) part), _, rfl, by decide⟩,
    ⟨state (ported (fun x => { x with sending := some ⟨.output, sheet⟩ }) part), _, rfl, by decide⟩,
    ⟨state (supped (fun u => { u with notice := some note }) part), _, note, rfl, by decide⟩,
    ⟨state (queued [entry .done] part), _, entry .done, [], rfl, by decide⟩,
    ⟨state (part.onBooks fun t => { t with records := [book .ended], endOrder := [0] }), _, 0, book .ended, [], rfl,
      by decide⟩,
    ⟨state (ported (fun x => { x with outList := [item [1]] }) (queued [entry .waiting] part)), _, item [1], [], rfl,
      by decide⟩⟩

theorem hyp_TicketSentCompletes :
    let sending (o : Owner) (p : Part) : Part := found (ported (fun x => { x with sending := some ⟨o, sheet⟩ }) p)
    (∀ o ∈ [Owner.haltNotice, .output, .report, .bookDone], (sending o part).port.sending = some ⟨o, sheet⟩) ∧
    ((sending .report (queued [voidEntry .done] part)).tracker.queue = [voidEntry .done] ∧
      (voidEntry .done).voidReason ≠ none) ∧
    ((sending .report (queued [entry .done] part)).tracker.queue = [entry .done] ∧ (entry .done).voidReason = none ∧
      (sending .report (queued [entry .done] part)).book? 7 = none) ∧
    ((sending .report (queued [entry .done] (shelf [book .spoiled] part))).tracker.queue = [entry .done] ∧
      (sending .report (queued [entry .done] (shelf [book .spoiled] part))).book? 7 = some (book .spoiled)) ∧
    (∀ n ∈ [7, 8],
      (sending .bookDone (part.onBooks fun t =>
        { t with records := [book .ended], endOrder := [0], tailBook := some n })).books =
          ⟨[book .ended], [0], some n⟩) := by decide

/-! ### Sheet sensors -/

theorem hyp_UnboundSensorsHalt :
    (found (on .idle)).sup.line = .idle ∧ (found (on .hold)).sup.line = .hold ∧
    (let p := found (on .run)
     p.sup.line = .run ∧ p.oldest .waiting = none ∧ p.hasStage .entered = false ∧ p.hasStage .toDrill = false ∧
       p.hasStage .toGate = false ∧ p.oldest .dropping = none) ∧
    (let p := found (queued [entry .atPunch, entry .atDrill, entry .atGate] (on .run))
     p.sup.line = .run ∧ p.hasStage .atPunch = true ∧ p.hasStage .atDrill = true ∧ p.hasStage .atGate = true) ∧
    (∀ f ∈ [entry, voidEntry],
      let e := { f .dropping with destination := some .pocketA }
      let p := found (queued [e] (on .run))
      p.sup.line ≠ .halt ∧ p.oldest .dropping = some e ∧ e.destination ≠ some .pocketB ∧
        e.destination ≠ some .reject) ∧
    (found (on .halt)).sup.line = .halt := by decide

theorem hyp_EntrySensorCompletes :
    ∃ (s : State) (p : Part) (es fs : List Entry) (e : Entry), p = s.toPart.settle ∧ p.sup.line = .run ∧
      p.tracker.queue = es ++ e :: fs ∧ (∀ x ∈ es, x.stage ≠ .waiting) ∧ e.stage = .waiting :=
  ⟨state (queued [entry .done, entry .waiting, entry .waiting] (on .run)), _, [entry .done], [entry .waiting],
    entry .waiting, rfl, by decide⟩

/-- What the punch statement asks of every clause, and each clause's own part. -/
theorem hyp_PunchRegisterCompletes :
    (∃ (s : State) (p : Part) (es fs : List Entry) (e : Entry), p = s.toPart.settle ∧ p.sup.line = .run ∧
      p.punch.state = .idle ∧ p.tracker.queue = es ++ e :: fs ∧ (∀ x ∈ es, x.stage ≠ .entered ∧ x.stage ≠ .atPunch) ∧
      (∀ x ∈ fs, x.stage ≠ .atPunch) ∧ e.stage = .entered ∧ e.isVoid = true) ∧
    (∃ (s : State) (p : Part) (e : Entry), p = s.toPart.settle ∧ p.sup.line = .run ∧ p.punch.state = .idle ∧
      p.tracker.queue = [e] ∧ e.stage = .entered ∧ e.isVoid = false ∧ p.bookSpoiled e.book = true) ∧
    (∃ (s : State) (p : Part) (e : Entry), p = s.toPart.settle ∧ p.sup.line = .run ∧ p.punch.state = .idle ∧
      p.tracker.queue = [e] ∧ e.stage = .entered ∧ e.isVoid = false ∧ p.bookSpoiled e.book = false ∧
      (p.treatment e).required = []) ∧
    (∃ (s : State) (p : Part) (e : Entry), p = s.toPart.settle ∧ p.sup.line = .run ∧ p.punch.state = .idle ∧
      p.tracker.queue = [e] ∧ e.stage = .entered ∧ e.isVoid = false ∧ p.bookSpoiled e.book = false ∧
      (p.treatment e).required ≠ [] ∧ p.effective .punch = false) :=
  ⟨⟨state (queued [voidEntry .entered] (on .run)), _, [], [], voidEntry .entered, rfl, by decide⟩,
    ⟨state (queued [entry .entered] (shelf [book .spoiled] (on .run))), _, entry .entered, rfl, by decide⟩,
    ⟨state (queued [entry .entered] (on .run)), _, entry .entered, rfl, by decide⟩,
    ⟨state (queued [worked .entered] (taught (.kind 2) (on .run))), _, worked .entered, rfl, by decide⟩⟩

/-- A part that RUNs with every station in use, pattern 1 taught under die 2 and a sheet of it at a stage. -/
def working (st : Stage) (die : BitVec 3) : Part :=
  punched (fun x => { x with dieLines := die }) (activated (queued [worked st] (taught (.kind 2) (on .run))))

theorem hyp_PunchRegisterCompletes_effective :
    (∃ (s : State) (p : Part) (e : Entry), p = s.toPart.settle ∧ p.tracker.queue = [e] ∧ e.stage = .entered ∧
      p.bookSpoiled e.book = false ∧ (p.treatment e).required ≠ [] ∧ p.effective .punch = true ∧
      dieMatches (p.treatment e).die p.punch.dieLines = false) ∧
    (∃ (s : State) (p : Part) (e : Entry), p = s.toPart.settle ∧ p.tracker.queue = [e] ∧ e.stage = .entered ∧
      p.bookSpoiled e.book = false ∧ (p.treatment e).required ≠ [] ∧ p.effective .punch = true ∧
      dieMatches (p.treatment e).die p.punch.dieLines = true ∧
      ((p.treatment e).required.filter fun c => p.coilHealth c != .ok) ≠ []) ∧
    (∃ (s : State) (p : Part) (e : Entry), p = s.toPart.settle ∧ p.tracker.queue = [e] ∧ e.stage = .entered ∧
      p.bookSpoiled e.book = false ∧ (p.treatment e).required ≠ [] ∧ p.effective .punch = true ∧
      dieMatches (p.treatment e).die p.punch.dieLines = true ∧
      ((p.treatment e).required.filter fun c => p.coilHealth c != .ok) = []) :=
  ⟨⟨state (working .entered 0), _, worked .entered, rfl, by decide⟩,
    ⟨state ((working .entered 2).markCoil 9 .shortCoil), _, worked .entered, rfl, by decide⟩,
    ⟨state (working .entered 2), _, worked .entered, rfl, by decide⟩⟩

theorem hyp_PunchRegisterCompletes_busy :
    ∀ st ∈ [PunchState.engage, .strike, .ramReturn, .fault],
      let p := found (punched (fun x => { x with state := st }) (working .entered 2))
      p.sup.line = .run ∧ p.tracker.queue = [worked .entered] ∧ p.punch.state ≠ .idle := by decide

theorem hyp_DrillRegisterCompletes :
    (∃ (s : State) (p : Part) (es fs : List Entry) (e : Entry), p = s.toPart.settle ∧ p.sup.line = .run ∧
      p.drillBusy = false ∧ p.tracker.queue = es ++ e :: fs ∧ (∀ x ∈ es, x.stage ≠ .toDrill ∧ x.stage ≠ .atDrill) ∧
      (∀ x ∈ fs, x.stage ≠ .atDrill) ∧ e.stage = .toDrill ∧ e.isVoid = true) ∧
    (∃ (s : State) (p : Part) (e : Entry), p = s.toPart.settle ∧ p.sup.line = .run ∧ p.drillBusy = false ∧
      p.tracker.queue = [e] ∧ e.stage = .toDrill ∧ e.isVoid = false ∧ p.bookSpoiled e.book = true) ∧
    (∃ (s : State) (p : Part) (e : Entry), p = s.toPart.settle ∧ p.sup.line = .run ∧ p.drillBusy = false ∧
      p.tracker.queue = [e] ∧ e.stage = .toDrill ∧ p.bookSpoiled e.book = false ∧ (p.treatment e).spindles = []) ∧
    (∃ (s : State) (p : Part) (e : Entry), p = s.toPart.settle ∧ p.sup.line = .run ∧ p.drillBusy = false ∧
      p.tracker.queue = [e] ∧ e.stage = .toDrill ∧ p.bookSpoiled e.book = false ∧ (p.treatment e).spindles ≠ [] ∧
      p.effective .drill = false) ∧
    (∃ (s : State) (p : Part) (e : Entry), p = s.toPart.settle ∧ p.sup.line = .run ∧ p.drillBusy = false ∧
      p.tracker.queue = [e] ∧ e.stage = .toDrill ∧ p.bookSpoiled e.book = false ∧ (p.treatment e).spindles = [.i2] ∧
      p.effective .drill = true ∧ (p.spindle .i2).downLevel = false ∧
      (p.drill.profiles.get (p.drill.map.get .i2)).mode = .oneShot) :=
  ⟨⟨state (queued [voidEntry .toDrill] (on .run)), _, [], [], voidEntry .toDrill, rfl, by decide⟩,
    ⟨state (queued [entry .toDrill] (shelf [book .spoiled] (on .run))), _, entry .toDrill, rfl, by decide⟩,
    ⟨state (queued [entry .toDrill] (on .run)), _, entry .toDrill, rfl, by decide⟩,
    ⟨state (queued [worked .toDrill] (taught (.kind 2) (on .run))), _, worked .toDrill, rfl, by decide⟩,
    ⟨state (working .toDrill 2), _, worked .toDrill, rfl, by decide⟩⟩

/-- A station with the drill in use and a sheet for spindles 2 and 3, with a profile and the levels of spindle 2. -/
def drilling (f : Profile) (down up : Bool) : Part :=
  (spun (fun x => { x with downLevel := down, upLevel := up })
    (drilled (fun d => { d with profiles := ⟨f, f, f, f⟩ }) (working .toDrill 2))).setPattern 1 fun x =>
      { x with loaded := some ⟨.kind 2, [], false, [.i2, .i3]⟩ }

theorem hyp_DrillRegisterCompletes_cycle :
    (let p := found (spun (fun x => { x with state := .retract }) (working .toDrill 2))
     p.sup.line = .run ∧ p.tracker.queue = [worked .toDrill] ∧ (p.spindle .i2).state ≠ .idle) ∧
    (∀ f ∈ [(⟨.peck, 8, 100, 10, 400⟩ : Profile), ⟨.oneShot, 2, 100, 0, 400⟩], ∀ down ∈ [true, false], ∀ up ∈ [true, false],
      let p := found (drilling f down up)
      p.sup.line = .run ∧ p.tracker.queue = [worked .toDrill] ∧ p.bookSpoiled 7 = false ∧
      (p.treatment (worked .toDrill)).spindles = [.i2, .i3] ∧ p.effective .drill = true ∧
      (∀ i ∈ [Idx4.i1, .i2, .i3, .i4], (p.spindle i).state = .idle ∧ p.drill.profiles.get (p.drill.map.get i) = f) ∧
      (p.spindle .i2).downLevel = down ∧ (p.spindle .i2).upLevel = up ∧ (p.spindle .i3).downLevel = false) ∧
    (let p := found ((spun (fun x => { x with downLevel := true, upLevel := true })
        (drilled (fun d => { d with profiles := ⟨⟨.oneShot, 2, 100, 0, 400⟩, ⟨.oneShot, 2, 100, 0, 400⟩,
          ⟨.oneShot, 2, 100, 0, 400⟩, ⟨.oneShot, 2, 100, 0, 400⟩⟩ }) (working .toDrill 2))))
     p.tracker.queue = [worked .toDrill] ∧ (p.treatment (worked .toDrill)).spindles = [.i2] ∧
       (p.spindle .i2).downLevel = true ∧ (p.spindle .i2).upLevel = true ∧
       (p.drill.profiles.get (p.drill.map.get .i2)).dwell = 0) :=
  ⟨by decide, by decide, by decide⟩

theorem hyp_ExitSensorCompletes :
    (∃ (s : State) (p : Part) (es fs : List Entry) (e : Entry), p = s.toPart.settle ∧ p.sup.line = .run ∧
      p.tracker.queue = es ++ e :: fs ∧ (∀ x ∈ es, x.stage ≠ .toGate ∧ x.stage ≠ .atGate) ∧
      (∀ x ∈ fs, x.stage ≠ .atGate) ∧ e.stage = .toGate ∧ e.isVoid = true) ∧
    (∃ (s : State) (p : Part) (e : Entry), p = s.toPart.settle ∧ p.sup.line = .run ∧ p.tracker.queue = [e] ∧
      e.stage = .toGate ∧ p.bookSpoiled e.book = true) ∧
    (∃ (s : State) (p : Part) (e : Entry) (b : Book) (k : PocketId), p = s.toPart.settle ∧ p.sup.line = .run ∧
      p.tracker.queue = [e] ∧ e.stage = .toGate ∧ e.isVoid = false ∧ p.book? e.book = some b ∧ b.state ≠ .spoiled ∧
      e.ownFault = false ∧ b.pocket = some k) ∧
    (∃ (s : State) (p : Part) (e : Entry) (b : Book) (k : PocketId), p = s.toPart.settle ∧ p.sup.line = .run ∧
      p.tracker.queue = [e] ∧ e.stage = .toGate ∧ e.isVoid = false ∧ p.book? e.book = some b ∧ b.state ≠ .spoiled ∧
      e.ownFault = false ∧ b.pocket = none ∧ p.freePocket = some k) ∧
    (∃ (s : State) (p : Part) (e : Entry) (b : Book), p = s.toPart.settle ∧ p.sup.line = .run ∧
      p.tracker.queue = [e] ∧ e.stage = .toGate ∧ e.isVoid = false ∧ p.book? e.book = some b ∧ b.state ≠ .spoiled ∧
      e.ownFault = false ∧ b.pocket = none ∧ p.freePocket = none) ∧
    (∃ (s : State) (p : Part) (e : Entry) (b : Book), p = s.toPart.settle ∧ p.sup.line = .run ∧
      p.tracker.queue = [e] ∧ e.stage = .toGate ∧ e.isVoid = false ∧ p.book? e.book = some b ∧ b.state = .filled ∧
      e.ownFault = true) :=
  ⟨⟨state (queued [voidEntry .toGate] (on .run)), _, [], [], voidEntry .toGate, rfl, by decide⟩,
    ⟨state (queued [entry .toGate] (shelf [book .spoiled] (on .run))), _, entry .toGate, rfl, by decide⟩,
    ⟨state (queued [entry .toGate] (shelf [{ book .filled with pocket := some .b }] (on .run))), _, entry .toGate,
      { book .filled with pocket := some .b }, .b, rfl, by decide⟩,
    ⟨state (queued [entry .toGate] (shelf [book .filled] (bound (fun c => { c with pocketA := ⟨.full, some 6⟩ }) (on .run)))),
      _, entry .toGate, book .filled, .b, rfl, by decide⟩,
    ⟨state (queued [entry .toGate] (shelf [book .filled]
        (bound (fun c => { c with pocketA := ⟨.full, some 6⟩, pocketB := ⟨.binding, some 5⟩ }) (on .run)))),
      _, entry .toGate, book .filled, rfl, by decide⟩,
    ⟨state (queued [{ entry .toGate with punchResult := some .partStruck }] (shelf [book .filled] (on .run))), _,
      { entry .toGate with punchResult := some .partStruck }, book .filled, rfl, by decide⟩⟩

theorem hyp_LandingCompletes :
    ∀ l ∈ [LandingSensor.pocketB, .reject], ∃ (s : State) (p : Part) (es fs : List Entry) (e : Entry) (b : Book),
      p = s.toPart.settle ∧ p.sup.line ≠ .halt ∧ p.tracker.queue = es ++ e :: fs ∧ (∀ x ∈ es, x.stage ≠ .dropping) ∧
      e.stage = .dropping ∧ e.destination = some (Part.landingDest l) ∧ e.isVoid = false ∧ p.book? e.book = some b ∧
      b.state = .filled := by
  intro l h
  simp only [List.mem_cons, List.not_mem_nil, or_false] at h
  rcases h with rfl | rfl
  · exact ⟨state (queued [{ entry .dropping with destination := some .pocketB }] (shelf [book .filled] (on .run))), _, [],
      [], { entry .dropping with destination := some .pocketB }, book .filled, rfl, by decide⟩
  · exact ⟨state (queued [{ entry .dropping with destination := some .reject }] (shelf [book .filled] (on .idle))), _, [],
      [], { entry .dropping with destination := some .reject }, book .filled, rfl, by decide⟩

/-- The last leaf of book 7 falls into pocket B: the book is FILLED and has one leaf gathered of its two, or none yet. -/
def falling (gathered : Nat) : Part :=
  bound (fun c => { c with pocketB := ⟨.gathering, some 7⟩ })
    (queued [{ entry .dropping with destination := some .pocketB }]
      (shelf [{ book .filled with gathered := gathered, pocket := some .b }] (on .run)))

theorem hyp_LandingCompletes_ready :
    (∀ g ∈ [0, 1],
      let b := { book .filled with gathered := g, pocket := some .b }
      let e := { entry .dropping with destination := some .pocketB }
      (found (falling g)).tracker.queue = [] ++ e :: [] ∧ (found (falling g)).book? e.book = some b ∧
      e.isVoid = false ∧ (b.gathered + 1 = b.expected ↔ g = 1)) ∧
    (∀ f ∈ [entry, voidEntry],
      let e := { f .dropping with destination := some .reject }
      (found (queued [e] (on .run))).tracker.queue = [] ++ e :: [] ∧ (found (queued [e] (on .run))).book? e.book = none) ∧
    (entry .dropping).isVoid = false ∧ (voidEntry .dropping).isVoid = true := by decide

/-! ### Punch and drill -/

theorem hyp_TreatmentResolves :
    (∃ d : PatternDef, (∀ n ∈ d.pins, 1 ≤ n ∧ n ≤ 48) ∧ d.pins.Pairwise (· < ·) ∧ d.drill.Nodup ∧
      (resolve d 3 1 true).required = [] ∧ (resolve d 2 1 true).required ≠ []) ∧
    .i2 ∈ (drilled (fun d => { d with cycle := [.i2] }) part).drill.cycle ∧
    (∀ st ∈ [Stage.atPunch, .atDrill],
      (queued [entry st] part).tracker.queue = [] ++ entry st :: [] ∧ (entry st).isVoid = false ∧
      (queued [entry st] part).bookSpoiled 7 = false ∧ ((queued [entry st] part).treatment (entry st)).required = [] ∧
      ((queued [entry st] part).treatment (entry st)).spindles = [] ∧
      (∀ q ∈ [queued [worked st] (taught (.kind 2) part), activated (queued [worked st] (taught (.kind 2) part))],
        q.tracker.queue = [worked st] ∧ (q.treatment (worked st)).required ≠ [] ∧
        (q.treatment (worked st)).spindles ≠ []) ∧
      (queued [worked st] (taught (.kind 2) part)).effective .punch = false ∧
      (activated (queued [worked st] (taught (.kind 2) part))).effective .drill = true) :=
  ⟨⟨⟨.kind 2, [1, 48], true, [.i2]⟩, by decide⟩, by decide⟩

/-- Setup of a VOID entry and of one whose book is SPOILED, and a drill cycle of free spindles, with levels low and with
every pass over at once. -/
theorem hyp_TreatmentResolves_setup :
    (∀ st ∈ [Stage.atPunch, .atDrill], (voidEntry st).isVoid = true ∧ (voidEntry st).stage = st ∧
      (shelf [book .spoiled] (queued [entry st] part)).bookSpoiled (entry st).book = true) ∧
    (let p := activated (queued [worked .atDrill] (taught (.kind 2) part))
     (p.treatment (worked .atDrill)).spindles = [.i2] ∧ (∀ i ∈ Idx4.all, (p.spindle i).state = .idle) ∧
       (p.spindle .i2).downLevel = false ∧ p.drill.map.get .i2 = .i2 ∧ (p.drill.profiles.get .i2).mode = .oneShot) ∧
    (let p := drilled (fun d => { d with profiles := d.profiles.set .i2 { d.profiles.get .i2 with dwell := 0 } })
        (spun (fun x => { x with downLevel := true, upLevel := true })
          (activated (queued [worked .atDrill] (taught (.kind 2) part))))
     (p.spindle .i2).downLevel = true ∧ (p.drill.profiles.get .i2).dwell = 0 ∧ (p.spindle .i2).upLevel = true) := by
  decide

theorem hyp_LatchCheckCompletes :
    (let p := found (engaged (on .run))
     p.punch.state = .engage ∧ p.punch.engaged = [1, 49] ∧ p.punch.held = true ∧
       p.tracker.queue = [] ++ entry .atPunch :: []) ∧
    (let p := found (punched (fun x => { x with state := .engage, engaged := [1, 49] }) part)
     p.punch.state = .engage ∧ p.punch.held = false) ∧
    (∀ l ∈ [[], [(2, CoilFault.openCoil)], [(1, .openCoil), (2, .openCoil), (49, .shortCoil)]],
      l.Pairwise (fun a b => a.1 < b.1) ∧ ∀ r ∈ l, 1 ≤ r.1 ∧ r.1 ≤ 49) ∧
    (found part).punch.state ≠ .engage := by decide

theorem hyp_OverCurrentCompletes :
    (found part).punch.engaged = [] ∧
    (∀ st ∈ [PunchState.strike, .ramReturn, .engage],
      let p := found (punched (fun x => { x with state := st }) (engaged (on .run)))
      p.punch.state = st ∧ p.punch.engaged = [1, 49] ∧ p.punch.faulted.Pairwise (· < ·) ∧ p.punch.held = true ∧
      p.tracker.queue = [] ++ entry .atPunch :: []) ∧
    (found (punched (fun x => { x with state := .engage, engaged := [1, 49] }) part)).punch.held = false := by decide

theorem hyp_RamEventsComplete :
    (let p := found (punched (fun x => { x with state := .strike }) part)
     p.punch.state = .strike ∧ p.punch.ramUpLevel = false) ∧
    (found part).punch.state ≠ .strike ∧ (found part).punch.state ≠ .ramReturn ∧
    (∀ st ∈ [PunchState.ramReturn, .strike], ∀ x ∈ [(true, false), (false, false), (false, true)],
      let p := found (queued [entry .atPunch]
        (punched (fun y => { y with state := st, ramUpLevel := true, held := x.1, pendingSetup := x.2 }) part))
      p.punch.state = st ∧ p.punch.ramUpLevel = true ∧ p.punch.held = x.1 ∧ p.punch.pendingSetup = x.2 ∧
      p.tracker.queue = [] ++ entry .atPunch :: []) := by decide

/-- A deadline that the millisecond count is one past. -/
def late (p : Part) : Part := p.onTimebase fun t => { t with millis := 1 }

/-- A cycle of spindle 2, in a state and with a number of passes. -/
def cycling (st : SpindleState) (passes : Nat) (p : Part) : Part :=
  drilled (fun d => { d with cycle := [.i2], held := true })
    (spun (fun x => { x with state := st, passes := passes, deadline := some 0, copy := some ⟨.i2, .reset⟩ }) p)

theorem hyp_StuckAndStalledComplete :
    (∀ l ∈ [LineState.idle, .run, .hold], ∀ st ∈ [PunchState.strike, .ramReturn], ∀ up ∈ [true, false],
      let p := late (punched (fun x => { x with state := st, ramUpLevel := up, deadline := some 0 }) (on l))
      passed 0 p.timebase.millis = true ∧ p.punch.deadline = some 0 ∧ p.punch.state = st ∧ p.punch.ramUpLevel = up ∧
      p.sup.line ≠ .halt) ∧
    (∀ x ∈ [none, some ⟨.externalStop, none⟩],
      let p := late (supped (fun u => { u with secondary := x })
        (punched (fun x => { x with state := .ramReturn, deadline := some 0 }) (cycling .retract 0 (on .halt))))
      passed 0 p.timebase.millis = true ∧ p.punch.deadline = some 0 ∧ p.punch.state = .ramReturn ∧
      (p.spindle .i2).state = .retract ∧ (p.spindle .i2).deadline = some 0 ∧ p.sup.line = .halt ∧ p.sup.secondary = x) ∧
    (let p := late (cycling .retract 1 (on .run))
     passed 0 p.timebase.millis = true ∧ (p.spindle .i2).state = .retract ∧ (p.spindle .i2).deadline = some 0 ∧
     p.sup.line ≠ .halt) := by decide

/-- A cycle of spindles 2 and 3, spindle 3 in PLUNGE, with the profile and the levels of spindle 2. -/
def paired (st : SpindleState) (passes dwell : Nat) (down up : Bool) : Part :=
  drilled (fun d => { d with cycle := [.i2, .i3] })
    ((spun (fun x => { x with copy := some ⟨.i2, ⟨.peck, 3, 400, dwell, 400⟩⟩, downLevel := down, upLevel := up })
      (cycling st passes part)).onSpindle .i3 fun x => { x with state := .plunge })

/-- Passes, dwell and the two levels of a spindle, in every combination the clauses tell apart. -/
def spindleCases : List (Nat × Nat × Bool × Bool) :=
  [(1, 0, false, false), (1, 1, true, true), (2, 0, false, true), (2, 0, true, true), (2, 0, true, false),
    (2, 1, false, true), (2, 1, true, true), (2, 1, false, false)]

theorem hyp_SpindleEventsComplete :
    (∀ st ∈ [SpindleState.plunge, .retract], ∀ x ∈ spindleCases,
      let p := found (paired st x.1 x.2.1 x.2.2.1 x.2.2.2)
      p.spindle .i2 = { p.spindle .i2 with state := st, passes := x.1, downLevel := x.2.2.1, upLevel := x.2.2.2 } ∧
      (p.spindle .i2).profile.dwell = x.2.1 ∧ .i3 ∈ p.drill.cycle ∧ (p.spindle .i3).working = true) ∧
    ((found part).spindle .i2).state ≠ .plunge ∧ ((found part).spindle .i2).state ≠ .retract ∧
    (∀ st ∈ [SpindleState.dwell, .plunge], ∀ x ∈ spindleCases,
      let p := late (paired st x.1 x.2.1 x.2.2.1 x.2.2.2)
      p.spindle .i2 = { p.spindle .i2 with
        state := st, passes := x.1, downLevel := x.2.2.1, upLevel := x.2.2.2, deadline := some 0 } ∧
      (p.spindle .i2).profile.dwell = x.2.1 ∧ passed 0 p.timebase.millis = true) := by decide

/-- A plunge window that runs out with spindle-up showing ends the pass, and with it the cycle, in the event. -/
theorem test_plunge_fails_at_the_top :
    (match exec (.plungeWindowRunsOut .i2) (state (late (queued [entry .atDrill]
        (spun (fun x => { x with upLevel := true }) (cycling .plunge 2 part))))) with
      | .next t => t.drill.cycle == [] && t.tracker.queue.map Entry.faultedSpindles == [[.i2]]
      | _ => false) = true := by decide

theorem hyp_DrillCycleEnds :
    (∀ x ∈ [(true, false), (false, false), (false, true)], ∀ st ∈ [SpindleState.done, .fault],
      let p := found (drilled (fun d => { d with cycle := [.i2, .i3], held := x.1, pendingSetup := x.2 })
        ((queued [entry .atDrill] (cycling .retract 1 part)).onSpindle .i3 fun y => { y with state := st }))
      p.drill.cycle = [.i2, .i3] ∧ p.drill.held = x.1 ∧ p.drill.pendingSetup = x.2 ∧ (p.spindle .i2).state = .retract ∧
      (p.spindle .i2).passes ≤ 1 ∧ (p.spindle .i3).state = st ∧ (p.spindle .i1).state = .idle ∧
      p.tracker.queue = [] ++ entry .atDrill :: []) := by decide

/-- What `afterSpindle` finds: a cycle with a spindle at work, none, or one that is over with and without its sheet. -/
theorem hyp_DrillCycleEnds_after :
    (∀ x ∈ [(SpindleState.retract, false), (.plunge, false), (.dwell, false), (.done, true), (.fault, true)],
      ∀ h ∈ [true, false],
      let r := drilled (fun d => { d with held := h }) (queued [entry .atDrill] (cycling x.1 1 part))
      r.drill.cycle = [.i2] ∧ (r.spindle .i2).state = x.1 ∧ r.drill.held = h ∧ r.tracker.queue = [entry .atDrill] ∧
      (r.afterSpindle.drill.cycle = [] ↔ x.2 = true)) ∧ part.drill.cycle = [] := by decide

/-! ### Closer -/

/-- The closer in a state, at work on book 7 in pocket A. -/
def atWork (st : CloserState) (ps : PocketState) (b : Book) (p : Part) : Part :=
  bound (fun c => { c with state := st, current := some ⟨.a, 7⟩, pocketA := ⟨ps, some 7⟩, deadline := some 0
                           active := some ⟨1, 7, 0, .atTake⟩ })
    (shelf [{ b with pocket := some .a }] p)

theorem hyp_CloserStepsComplete :
    (∃ (s : State) (p : Part), p = s.toPart.settle ∧ p.closer.state = .clamp ∧ p.currentHanger = false) ∧
    (∃ (s : State) (p : Part), p = s.toPart.settle ∧ p.closer.state = .clamp ∧ p.currentHanger = true ∧
      p.closer.hangerEmpty = false) ∧
    (∃ (s : State) (p : Part), p = s.toPart.settle ∧ p.closer.state = .hanger) ∧
    (∃ (s : State) (p : Part) (a : ActiveCount), p = s.toPart.settle ∧ p.closer.state = .feed ∧
      p.closer.active = some a ∧ a.value = 1) ∧
    (∃ (s : State) (p : Part) (a : ActiveCount), p = s.toPart.settle ∧ p.closer.state = .feed ∧
      p.closer.active = some a ∧ a.value = 2) ∧
    (∃ (s : State) (p : Part) (g : StagedCount), p = s.toPart.settle ∧ p.closer.state = .cut ∧ p.closer.staged = some g) ∧
    (∃ (s : State) (p : Part), p = s.toPart.settle ∧ p.closer.state = .cut ∧ p.closer.staged = none) ∧
    (∃ (s : State) (p : Part), p = s.toPart.settle ∧ p.closer.state = .close) :=
  ⟨⟨state (atWork .clamp .binding (book .closing) part), _, rfl, by decide⟩,
    ⟨state (atWork .clamp .binding { book .closing with hanger := true } part), _, rfl, by decide⟩,
    ⟨state (atWork .hanger .binding (book .closing) part), _, rfl, by decide⟩,
    ⟨state (atWork .feed .binding (book .closing) part), _, ⟨1, 7, 0, .atTake⟩, rfl, by decide⟩,
    ⟨state (bound (fun c => { c with state := .feed, active := some ⟨2, 7, 0, .atTake⟩ }) part), _, ⟨2, 7, 0, .atTake⟩, rfl,
      by decide⟩,
    ⟨state (bound (fun c => { c with state := .cut, staged := some ⟨30, 8, 1⟩ }) part), _, ⟨30, 8, 1⟩, rfl, by decide⟩,
    ⟨state (atWork .cut .binding (book .closing) part), _, rfl, by decide⟩,
    ⟨state (atWork .close .binding (book .closing) part), _, rfl, by decide⟩⟩

/-- A cycle that ends: EJECT; DUMP of a SPOILED book with sheets of it in the queue, and of one that ends. -/
theorem hyp_CloserCyclesEnd :
    (∃ (s : State) (p : Part), p = s.toPart.settle ∧ p.closer.state ≠ .eject ∧ p.closer.state ≠ .dump) ∧
    (∀ x ∈ [(CloserState.eject, PocketState.binding, book .closing), (.dump, .dumping, book .spoiled),
        (.dump, .dumping, { book .spoiled with inQueue := 0 })],
      let b : Book := { x.2.2 with pocket := some .a }
      let p := found (atWork x.1 x.2.1 x.2.2 part)
      p.closer.current = some ⟨.a, b.number⟩ ∧ p.book? b.number = some b ∧ p.closer.state = x.1) :=
  ⟨⟨state part, _, rfl, by decide⟩, by decide⟩

/-- The closer station in use, and a pocket in a state at the head of the request list, held by book 7. -/
def listed (l : LineState) (st : PocketState) (b : BookState) : Part :=
  bound (fun c => { c with pocketB := ⟨st, some 7⟩, requests := [.b] })
    (shelf [{ book b with pocket := some .b }] (activated (on l)))

/-- A sheet of book 7 that waits at the gate, with pocket A in a state. -/
def waitsGate (e : Entry) (b : Book) (a : PocketState) : Part :=
  bound (fun c => { c with pocketA := ⟨a, none⟩, pocketB := ⟨.full, some 5⟩ })
    (queued [e] (shelf [b] (supped (fun u => { u with pocketWait := true }) (on .hold))))

theorem hyp_CloserCyclesEnd_take :
    (∀ l ∈ [LineState.run, .hold, .idle], ∀ x ∈ [(PocketState.full, BookState.ready), (.dumpWait, .spoiled)],
      let p := listed l x.1 x.2
      p.closer.state = .idle ∧ p.sup.line = l ∧ p.stations.activation.closer = true ∧
      p.stations.outOfService.closer = false ∧ p.stations.guardsOpen.closer = false ∧ p.closer.requests = [.b] ∧
      (p.pocket .b).state = x.1 ∧ (p.pocket .b).book = some 7 ∧ p.book? 7 = some { book x.2 with pocket := some .b } ∧
      p.tracker.queue = []) ∧
    (let p := queued [{ entry .dropping with destination := some .pocketB }] (listed .run .dumpWait .spoiled)
     p.tracker.queue = [{ entry .dropping with destination := some PocketId.b.dest }] ∧ p.closer.requests = [.b]) ∧
    part.closer.requests = [] := by decide

theorem hyp_CloserCyclesEnd_gate :
    (∀ x ∈ [(voidEntry .atGate, book .filled), (entry .atGate, book .spoiled), (entry .atGate, book .filled),
        ({ entry .atGate with punchResult := some .skipped }, book .filled),
        (entry .atGate, { book .filled with pocket := some .b })], ∀ a ∈ [PocketState.free, .full],
      let p := waitsGate x.1 x.2 a
      p.sup.line = .hold ∧ p.sup.pocketWait = true ∧ p.tracker.queue = [] ++ x.1 :: [] ∧ x.1.stage = .atGate ∧
      p.book? x.1.book = some x.2 ∧ (p.pocket .a).state = a ∧ (p.pocket .b).state = .full) ∧
    (entry .atGate).ownFault = false ∧ { entry .atGate with punchResult := some .skipped }.ownFault = true ∧
    (let p := bound (fun c => { c with pocketB := ⟨.free, none⟩ }) (waitsGate (entry .atGate) (book .filled) .full)
     (p.pocket .b).state = .free ∧ (p.pocket .a).state ≠ .free ∧ (book .filled).pocket = none) := by decide

theorem hyp_CloserFaultsComplete :
    (∃ (s : State) (b : Book), Part.bindState s.closer.state = true ∧ s.closer.deadline = some 0 ∧
      passed 0 s.timebase.millis = true ∧ s.closer.current = some ⟨.a, b.number⟩ ∧ s.toPart.book? b.number = some b ∧
      b.state = .closing ∧ b.pocket = some .a) ∧
    (∃ (s : State) (p : Part) (b : Book), p = s.toPart.settle ∧ p.closer.state = .hanger ∧
      p.closer.current = some ⟨.a, b.number⟩ ∧ p.book? b.number = some b ∧ b.state = .closing ∧ b.pocket = some .a) ∧
    (∃ (s : State) (p : Part) (b : Book), p = s.toPart.settle ∧ p.closer.state = .clamp ∧ b.hanger = true ∧
      p.closer.hangerEmpty = true ∧ p.closer.current = some ⟨.a, b.number⟩ ∧ p.book? b.number = some b ∧
      b.state = .closing ∧ b.pocket = some .a) ∧
    (∃ (s : State) (p : Part), p = s.toPart.settle ∧ p.closer.state ≠ .hanger) ∧
    (∃ (s : State) (b : Book), s.closer.state = .dump ∧ s.closer.deadline = some 0 ∧
      passed 0 s.timebase.millis = true ∧ s.closer.current = some ⟨.a, b.number⟩) :=
  ⟨⟨state (late (atWork .eject .binding (book .closing) part)), { book .closing with pocket := some .a }, by decide⟩,
    ⟨state (atWork .hanger .binding (book .closing) part), _, { book .closing with pocket := some .a }, rfl, by decide⟩,
    ⟨state (bound (fun c => { c with hangerEmpty := true })
        (atWork .clamp .binding { book .closing with hanger := true } part)), _,
      { book .closing with pocket := some .a, hanger := true }, rfl, by decide⟩,
    ⟨state part, _, rfl, by decide⟩,
    ⟨state (late (atWork .dump .dumping (book .spoiled) part)), book .spoiled, by decide⟩⟩

/-! ### Timebase, halts, supervisor -/

theorem hyp_ClockEventsComplete :
    (∃ (s : State) (p : Part), p = s.toPart.settle ∧ p.timebase.state = .valid ∧ p.sup.line = .idle) ∧
    (∃ (s : State) (p : Part), p = s.toPart.settle ∧ p.timebase.state = .starting ∧ p.timebase.runCount = 62) ∧
    (∃ (s : State) (p : Part), p = s.toPart.settle ∧ p.timebase.state = .lost ∧ p.timebase.runCount = 63) ∧
    (∃ (s : State) (p : Part), p = s.toPart.settle ∧ p.timebase.state = .valid ∧ p.sup.line = .run ∧
      p.timebase.settings.edge = .rising ∧ p.timebase.state ≠ .unset) ∧
    (∃ (s : State) (p : Part), p = s.toPart.settle ∧ p.timebase.state = .valid ∧ p.sup.line = .hold) ∧
    (∃ (s : State) (p : Part), p = s.toPart.settle ∧ p.timebase.state = .unset) :=
  ⟨⟨state (on .idle), _, rfl, by decide⟩,
    ⟨state (part.onTimebase fun t => { t with state := .starting, runCount := 62 }), _, rfl, by decide⟩,
    ⟨state (part.onTimebase fun t => { t with state := .lost, runCount := 63 }), _, rfl, by decide⟩,
    ⟨state (on .run), _, rfl, by decide⟩, ⟨state (on .hold), _, rfl, by decide⟩, ⟨state part, _, rfl, by decide⟩⟩

theorem hyp_ClockEventsComplete_halt :
    (∀ x ∈ [none, some ⟨.ramStuck, none⟩],
      let p := found (supped (fun u => { u with secondary := x }) (on .halt))
      p.timebase.state = .valid ∧ p.sup.line = .halt ∧ p.sup.secondary = x) ∧
    (∀ e ∈ [Edge.rising, .falling, .both],
      let p := found ((on .run).onTimebase fun t => { t with settings := { t.settings with edge := e } })
      p.timebase.settings.edge = e ∧ p.timebase.state ≠ .unset ∧ p.sup.line = .run) := by decide

theorem hyp_JamCompletes :
    (∃ (s : State) (d : Deadline) (e : Entry), s.toPart.slot .leadIn = some (d, e) ∧
      passed d.count (s.toPart.countOf d.kind) = true ∧ s.sup.line ≠ .halt) ∧
    (∃ (s : State) (d : Deadline) (e : Entry), s.toPart.slot .drop = some (d, e) ∧
      passed d.count (s.toPart.countOf d.kind) = true ∧ s.sup.line ≠ .halt) :=
  ⟨⟨state ((queued [{ entry .entered with deadline := some ⟨.position, 0⟩ }] (on .run)).onTimebase fun t =>
        { t with position := 1 }), _, _, rfl, by decide⟩,
    ⟨state (late (queued [{ entry .dropping with deadline := some ⟨.time, 0⟩ }] (on .idle))), _, _, rfl, by decide⟩⟩

/-- The parts of `test_agreed_parts` meet the premises of the clauses on pockets and books. -/
theorem hyp_HaltEntryEffects :
    (agreed .atPunch .run).sup.line ≠ .halt ∧ (agreed .atPunch .run).book? 7 ≠ none ∧
    ((agreed .atPunch .run).pocket .a).book = some 7 ∧ ((agreed .atPunch .run).pocket .b).book = none ∧
    binding.sup.line ≠ .halt ∧ Part.bindState binding.closer.state = true ∧ binding.closer.current = some ⟨.a, 7⟩ ∧
    (on .halt).sup.line = .halt ∧ (on .halt).sup.secondary = none ∧
    (supped (fun u => { u with secondary := some ⟨.ramStuck, none⟩ }) (on .halt)).sup.secondary ≠ none := by decide

/-- The punch in every state with the ram up and down, and a cycle of spindle 2 in every state with the spindle up and
down: the halt leaves a cycle alone while its spindle is still to come up. -/
theorem hyp_HaltEntryEffects_stations :
    (∀ st ∈ [PunchState.idle, .engage, .strike, .ramReturn, .fault], ∀ up ∈ [true, false],
      let p := punched (fun x => { x with state := st, ramUpLevel := up }) (on .run)
      p.sup.line ≠ .halt ∧ p.punch.state = st ∧ p.punch.ramUpLevel = up) ∧
    (∀ x ∈ [(SpindleState.plunge, true, true), (.plunge, false, false), (.dwell, true, true), (.dwell, false, false),
        (.retract, false, false), (.done, true, true), (.fault, false, true)],
      let p := spun (fun y => { y with upLevel := x.2.1 }) (cycling x.1 1 (on .run))
      p.sup.line ≠ .halt ∧ p.drill.cycle = [.i2] ∧ (p.spindle .i2).state = x.1 ∧ (p.spindle .i2).upLevel = x.2.1 ∧
      ((p.raise .externalStop none).drill.cycle = [] ↔ x.2.2 = true)) := by decide

theorem hyp_GuardEventsComplete :
    (∃ (s : State) (p : Part), p = s.toPart.settle ∧ p.stations.guardsOpen.has .drill = false ∧ p.sup.line = .run ∧
      p.stations.activation.has .drill = true) ∧
    (∃ (s : State) (p : Part), p = s.toPart.settle ∧ p.sup.line = .run ∧ p.stations.activation.has .drill = false ∧
      p.cycleRunning .drill = false) ∧
    (∃ (s : State) (p : Part), p = s.toPart.settle ∧ p.stations.guardsOpen.has .drill = false ∧ p.sup.line = .halt) ∧
    (∃ (s : State) (p : Part), p = s.toPart.settle ∧ p.sup.line = .idle ∧ p.cycleRunning .closer = false ∧
      p.punch.state = .engage) ∧
    (∃ (s : State) (p : Part), p = s.toPart.settle ∧ p.sup.line = .idle ∧ p.punch.state = .strike ∧
      p.punch.ramUpLevel = false) ∧
    (∃ (s : State) (p : Part), p = s.toPart.settle ∧ p.sup.line = .idle ∧ .i2 ∈ p.drill.cycle ∧
      (p.spindle .i2).state = .plunge ∧ (p.spindle .i2).upLevel = false) ∧
    (∃ (s : State) (p : Part), p = s.toPart.settle ∧ p.sup.line = .idle ∧ p.cycleRunning .closer = true ∧
      p.closer.current = some ⟨.a, 7⟩) :=
  ⟨⟨state (activated (on .run)), _, rfl, by decide⟩, ⟨state (on .run), _, rfl, by decide⟩,
    ⟨state (on .halt), _, rfl, by decide⟩, ⟨state (punched (fun x => { x with state := .engage }) part), _, rfl, by decide⟩,
    ⟨state (punched (fun x => { x with state := .strike }) part), _, rfl, by decide⟩,
    ⟨state (cycling .plunge 1 part), _, rfl, by decide⟩,
    ⟨state (atWork .eject .binding (book .closing) part), _, rfl, by decide⟩⟩

/-- The clauses of a guard opening with the line IDLE: the punch in each state of a cycle, with and without its sheet; a
cycle of spindle 2 that holds a sheet, which the guard ends at once in the cases marked so. -/
theorem hyp_GuardEventsComplete_idle :
    (∀ x ∈ [(PunchState.engage, true), (.engage, false), (.strike, true), (.strike, false), (.ramReturn, false)],
      ∀ h ∈ [true, false],
      let p := found (punched (fun y => { y with state := x.1, ramUpLevel := x.2, held := h }) (queued [entry .atPunch] part))
      p.stations.guardsOpen.has .punch = false ∧ p.sup.line = .idle ∧ p.punch.state = x.1 ∧ p.punch.ramUpLevel = x.2 ∧
      p.punch.held = h ∧ p.tracker.queue = [entry .atPunch]) ∧
    (∀ x ∈ [(SpindleState.plunge, true, true), (.plunge, false, false), (.dwell, true, true), (.dwell, false, false),
        (.retract, false, false), (.done, true, true), (.fault, false, true)],
      let p := found (spun (fun y => { y with upLevel := x.2.1 }) (queued [entry .atDrill] (cycling x.1 1 part)))
      p.stations.guardsOpen.has .drill = false ∧ p.sup.line = .idle ∧ p.drill.cycle = [.i2] ∧ p.drill.held = true ∧
      p.tracker.queue = [entry .atDrill] ∧ (p.spindle .i2).state = x.1 ∧ (p.spindle .i2).upLevel = x.2.1 ∧
      (match exec (.guardOpen .drill) (state p) with
        | .next t => t.drill.cycle == []
        | _ => false) = x.2.2) := by decide

theorem hyp_InputRowsComplete :
    (∀ l ∈ [LineState.run, .hold, .idle],
      let p := found (on l)
      p.sup.supplyLow = false ∧ p.sup.driverShutdown = false ∧ p.sup.stopInput = false ∧ p.sup.line = l) ∧
    (∀ x ∈ [none, some ⟨.ramStuck, none⟩],
      let p := found (supped (fun u => { u with secondary := x }) (on .halt))
      p.sup.supplyLow = false ∧ p.sup.driverShutdown = false ∧ p.sup.stopInput = false ∧ p.sup.line = .halt ∧
      p.sup.secondary = x) := by decide

theorem hyp_OutputsFollowState :
    (asked [1] part).toPart.executable = some (item [1]) ∧ (item [1]).addressed = true ∧ part.cmd = ⟨[], none⟩ ∧
    (ported (fun x => { x with rx := .inside [3] }) part).port.rx = .inside [3] ∧ part.port.rx = .outside ∧
    (∀ st ∈ [PunchState.engage, .strike, .ramReturn, .idle, .fault],
      (punched (fun x => { x with state := st }) part).punch.state = st) ∧
    (on .halt).sup.line = .halt ∧ (on .halt).signal = .steady ∧ (on .hold).sup.line = .hold ∧ (on .hold).signal = .pulsed ∧
    (on .hold).timebase.state = .valid ∧ (line .hold part).timebase.state ≠ .valid ∧ (line .hold part).signal = .pulsed ∧
    (on .run).sup.line ≠ .hold ∧ (on .run).closer.state ≠ .fault ∧ (on .run).signal = .off ∧
    (bound (fun c => { c with state := .fault }) (on .run)).closer.state = .fault := by decide

/-- A part with nothing due settles to itself; one with a request settles to that request's execution. -/
theorem test_settle : found part = part ∧ (asked [1] part).toPart.settle.cmd.list = [] := by decide

def ownRows : List Instr := [.readStatus, .readQueue, .readBook, .readPattern, .readDrill, .readCloser, .readHalt, .run,
  .stop, .halt, .resume, .clearFaults, .reset, .loadPattern, .clearPattern, .setPunch, .setProfile, .mapSpindles,
  .setCloser, .setTimebase, .startTimebase, .stations, .service, .setLine, .amendBook, .cancelBook, .unknownRequest,
  .resetCompletes, .ticketClassified, .sheetAdmitted, .jam .leadIn, .jam .mid, .jam .runOut, .jam .drop, .ramStall,
  .ramStuck, .closerWindowRunsOut, .dumpWindowRunsOut] ++
  Idx4.all.flatMap fun i => [.dwellRunsOut i, .plungeWindowRunsOut i, .drillStuck i]

/-- Right after reset each of the part's own rows changes nothing. -/
theorem hyp_OutputsFollowState_quiet : ∀ i ∈ ownRows,
    (match exec i (state part) with
      | .next t => decide (t = state part)
      | _ => false) = true := by decide

end Sys2Proof.Tests
end

section
/-! SUPPORT. CLEAR PATTERN: its answer case by case, and the book checks on a ticket that names an EMPTY entry. -/

namespace Sys2Proof.Machine

namespace Part

/-! ### What the command list and a reply leave of the pattern table -/

theorem pattern?_congr {p q : Part} (h : q.patterns = p.patterns) (n : Nat) : q.pattern? n = p.pattern? n := by
  simp only [pattern?, h]

theorem useCount_congr {p q : Part} (h : q.patterns = p.patterns) (n : Nat) : q.useCount n = p.useCount n := by
  simp only [useCount, h]

@[simp] theorem pattern?_placeReply (it : Item) (r : ResultCode) (l : List Byte) (p : Part) (n : Nat) :
    (p.placeReply it r l).pattern? n = p.pattern? n := pattern?_congr (by simp) n

@[simp] theorem useCount_placeReply (it : Item) (r : ResultCode) (l : List Byte) (p : Part) (n : Nat) :
    (p.placeReply it r l).useCount n = p.useCount n := useCount_congr (by simp) n

@[simp] theorem pattern?_popCommand (p : Part) (n : Nat) : p.popCommand.pattern? n = p.pattern? n := rfl

@[simp] theorem useCount_popCommand (p : Part) (n : Nat) : p.popCommand.useCount n = p.useCount n := rfl

/-! ### An entry is emptied -/

/-- The entry of a number becomes EMPTY, its use count kept (R57). -/
def emptyPattern (n : Nat) (p : Part) : Part := p.setPattern n fun x => { x with loaded := none }

theorem pattern?_emptyPattern (n m : Nat) (p : Part) :
    (p.emptyPattern n).pattern? m = if m = n then none else p.pattern? m := by
  rw [emptyPattern, pattern?_setPattern]
  by_cases hm : m < 64
  · simp [hm]
  · simp [hm, pattern?]

@[simp] theorem useCount_emptyPattern (n m : Nat) (p : Part) : (p.emptyPattern n).useCount m = p.useCount m := by
  rw [emptyPattern, useCount_setPattern]
  by_cases hm : m < 64
  · simp [hm, useCount]
  · simp [hm, useCount]

/-- The bytes of an entry whose number came as one byte (R57, R189). -/
theorem patternBytes_byte (n : Byte) (p : Part) :
    p.patternBytes n.toNat =
      [n, if (p.pattern? n.toNat).isSome then 2 else 1, byte (p.useCount n.toNat)] := by
  have hn : byte n.toNat = n := by simp [byte]
  have hs : byte (p.patternStateCode n.toNat) = if (p.pattern? n.toNat).isSome then 2 else 1 := by
    unfold patternStateCode
    split <;> rfl
  rw [patternBytes, hn, hs]

/-! ### CLEAR PATTERN, in the order of R57 -/

theorem answerClearPattern_badLength {t : Ticket} (h : t.body.length ≠ 2) (p : Part) :
    p.answerClearPattern t = refuse .badLength [] p := by
  unfold answerClearPattern
  split
  · next hb => simp [hb] at h
  · rfl

theorem answerClearPattern_badField {t : Ticket} {c n : Byte} (hb : t.body = [c, n])
    (hn : n.toNat = 0 ∨ 63 < n.toNat) (p : Part) : p.answerClearPattern t = refuse .badField [] p := by
  have hr : inRange 1 63 n.toNat = false := by simp [inRange]; omega
  simp [answerClearPattern, hb, hr]

theorem answerClearPattern_inUse {t : Ticket} {c n : Byte} (hb : t.body = [c, n]) (h1 : 1 ≤ n.toNat)
    (h63 : n.toNat ≤ 63) {p : Part} (hu : 0 < p.useCount n.toNat) :
    p.answerClearPattern t = refuse .inUse (p.patternBytes n.toNat) p := by
  have hr : inRange 1 63 n.toNat = true := by simp [inRange, h1, h63]
  simp [answerClearPattern, hb, hr, hu]

theorem answerClearPattern_ok {t : Ticket} {c n : Byte} (hb : t.body = [c, n]) (h1 : 1 ≤ n.toNat)
    (h63 : n.toNat ≤ 63) {p : Part} (hu : p.useCount n.toNat = 0) :
    p.answerClearPattern t = ⟨p.emptyPattern n.toNat, .ok, [n, 1, 0]⟩ := by
  have hr : inRange 1 63 n.toNat = true := by simp [inRange, h1, h63]
  have hp : (p.emptyPattern n.toNat).patternBytes n.toNat = [n, 1, 0] := by
    simp [patternBytes_byte, pattern?_emptyPattern, hu, byte]
  rw [← hp]
  simp [answerClearPattern, hb, hr, hu, emptyPattern]

/-! ### The book checks on a ticket that names an EMPTY entry (R33, R34) -/

/-- A continuation that is the book's next leaf but names an EMPTY entry (R33). -/
theorem judgeBook_continuation_noPattern {f : SheetFields} {b : Book} {p : Part} (ht : p.tailRecord f.book = some b)
    (ha : b.admitted < b.expected) (hl : f.leaf = b.lastLeaf + 1) (he : p.pattern? f.pattern = none) :
    p.judgeBook f = (p.spoil f.book .voidLeaf true, .void .noPattern) := by
  simp [judgeBook, ht, judgeTail, ha, hl, he]

/-- An opening ticket that passes the other checks of R34 but names an EMPTY entry. -/
theorem judgeBook_opening_noPattern {f : SheetFields} {h : BookHeader} {p : Part} (ht : p.tailRecord f.book = none)
    (hh : f.header = some h) (hb : p.book? f.book = none) (hc : p.books.records.length < 12)
    (hw : p.closer.wireClass = h.wireClass) (h0 : h.wireClass ≠ 0) (he : p.pattern? f.pattern = none) :
    p.judgeBook f = (p, .void .noPattern) := by
  have hfull : ¬ Config.bookRecords ≤ p.books.records.length := Nat.not_le.2 hc
  simp [judgeBook, ht, hh, judgeOpening, hb, hfull, hw, h0, he]

end Part

/-! ### The row -/

theorem exec_clearPattern {s : State} {it : Item} (h : s.toPart.executable = some it) (hc : it.ticket.code = 33) :
    exec .clearPattern s =
      .next (s.withPart ((s.toPart.popCommand.answerClearPattern it.ticket).part.placeReply it
        (s.toPart.popCommand.answerClearPattern it.ticket).result
        (s.toPart.popCommand.answerClearPattern it.ticket).payload)) := by
  have hr : exec .clearPattern s = request (· == 33) s := rfl
  rw [hr, request_answer h (by simp [hc]) (by simp [hc]), Part.answer_clearPattern hc]

/-- A refused CLEAR PATTERN leaves the list and is answered; nothing else changes. -/
theorem exec_clearPattern_refused {s : State} {it : Item} {r : ResultCode} {l : List Byte}
    (h : s.toPart.executable = some it) (hc : it.ticket.code = 33)
    (ha : s.toPart.popCommand.answerClearPattern it.ticket = refuse r l s.toPart.popCommand) :
    exec .clearPattern s = .next (s.withPart (s.toPart.popCommand.placeReply it r l)) := by
  rw [exec_clearPattern h hc, ha]
  rfl

/-- Settles O14: each outcome of R57 is one case of the answer, and the two book checks are those of R33 and R34. -/
theorem clearPatternOutcomes : Obligations.ClearPatternOutcomes := by
  intro s it p hex hcode
  refine ⟨fun hlen => ?badLength, fun n hbody => ⟨fun hn => ?badField, fun h1 h63 hu => ?inUse, fun h1 h63 hu => ?ok⟩⟩
  case badLength => exact exec_clearPattern_refused hex hcode (Part.answerClearPattern_badLength hlen _)
  case badField => exact exec_clearPattern_refused hex hcode (Part.answerClearPattern_badField hbody hn _)
  case inUse =>
    have ha := Part.answerClearPattern_inUse (p := p.popCommand) hbody h1 h63 hu
    rw [Part.patternBytes_byte] at ha
    exact exec_clearPattern_refused hex hcode ha
  case ok =>
    have ha := Part.answerClearPattern_ok (p := p.popCommand) hbody h1 h63 hu
    refine ⟨(p.popCommand.emptyPattern n.toNat).placeReply it .ok [n, 1, 0], ?row, ?emptied, ?counts, ?others, ?frame,
      fun r f hf he => ⟨fun b ht hlt hl => ?continuation, fun h ht hh hb hfree hw h0 => ?opening⟩⟩
    case row => rw [exec_clearPattern hex hcode, ha]
    case emptied => simp [Part.pattern?_emptyPattern]
    case counts => simp
    case others => intro k hk; simp [Part.pattern?_emptyPattern, hk]
    case frame => simp only [Part.placeReply_frame]; rfl
    case continuation => exact Part.judgeBook_continuation_noPattern ht hlt hl (hf ▸ he)
    case opening => exact Part.judgeBook_opening_noPattern ht hh hb hfree hw h0 (hf ▸ he)

end Sys2Proof.Machine
end

section
/-! SUPPORT. What a sheet receives (R61 to R63): the mirror of pins and spindles, and a treatment field by field. -/

namespace Sys2Proof

/-! ### Spindle numbers -/

theorem Idx4.mem_all (i : Idx4) : i ∈ Idx4.all := by cases i <;> decide

theorem Idx4.mirror_toNat (i : Idx4) : i.mirror.toNat = 5 - i.toNat := by cases i <;> rfl

@[simp] theorem Idx4.mirror_mirror (i : Idx4) : i.mirror.mirror = i := by cases i <;> rfl

theorem Idx4.mirror_injective : Function.Injective Idx4.mirror := Function.LeftInverse.injective Idx4.mirror_mirror

@[simp] theorem Idx4.mem_sorted (i : Idx4) (l : List Idx4) : i ∈ Idx4.sorted l ↔ i ∈ l := by
  simp [Idx4.sorted, Idx4.mem_all]

theorem Idx4.sorted_ascending (l : List Idx4) : ((Idx4.sorted l).map Idx4.toNat).Pairwise (· < ·) := by
  have hall : (Idx4.all.map Idx4.toNat).Pairwise (· < ·) := by decide
  rw [List.pairwise_map] at hall ⊢
  exact hall.filter _

theorem Idx4.sorted_length {l : List Idx4} (h : l.Nodup) : (Idx4.sorted l).length = l.length := by
  have hs : (Idx4.sorted l).Nodup := List.Nodup.filter _ (by decide)
  exact ((List.perm_ext_iff_of_nodup hs h).2 fun i => Idx4.mem_sorted i l).length_eq

end Sys2Proof

namespace Sys2Proof.Machine

/-! ### The mirror of a face-DOWN sheet (R61) -/

theorem mem_mirrorSpindles (i : Idx4) (l : List Idx4) : i ∈ mirrorSpindles l ↔ i.mirror ∈ l := by
  rw [mirrorSpindles, Idx4.mem_sorted, List.mem_map]
  constructor
  · rintro ⟨j, hj, rfl⟩
    rwa [Idx4.mirror_mirror]
  · exact fun h => ⟨i.mirror, h, Idx4.mirror_mirror i⟩

theorem mirrorSpindles_length {l : List Idx4} (h : l.Nodup) : (mirrorSpindles l).length = l.length := by
  rw [mirrorSpindles, Idx4.sorted_length (h.map Idx4.mirror_injective), List.length_map]

@[simp] theorem mirrorPins_length (l : List Nat) : (mirrorPins l).length = l.length := by simp [mirrorPins]

theorem mem_mirrorPins {l : List Nat} (hl : ∀ n ∈ l, 1 ≤ n ∧ n ≤ 48) {n : Nat} (h1 : 1 ≤ n) (h48 : n ≤ 48) :
    n ∈ mirrorPins l ↔ 49 - n ∈ l := by
  rw [mirrorPins, List.mem_reverse, List.mem_map]
  constructor
  · rintro ⟨m, hm, rfl⟩
    have hr := hl m hm
    rwa [show 49 - (49 - m) = m by omega]
  · exact fun h => ⟨49 - n, h, by omega⟩

/-- The mirror turns the order round, and the reversal turns it back. -/
theorem mirrorPins_ascending {l : List Nat} (hl : ∀ n ∈ l, 1 ≤ n ∧ n ≤ 48) (h : l.Pairwise (· < ·)) :
    (mirrorPins l).Pairwise (· < ·) := by
  rw [mirrorPins, List.pairwise_reverse, List.pairwise_map]
  refine h.imp_of_mem fun ha hb hab => ?_
  have := hl _ ha
  have := hl _ hb
  omega

/-! ### A treatment, field by field -/

section
variable (d : PatternDef) (h : Bool)

theorem resolve_spindles_up (role : Nat) : (resolve d role 1 h).spindles = d.drill := rfl

/-- A BOARD: no pins, no notch, no die (R62, R63). -/
theorem resolve_board (face : Nat) : (resolve d 3 face h).required = [] ∧ (resolve d 3 face h).pins = [] ∧
    (resolve d 3 face h).notch = false ∧ (resolve d 3 face h).die = none :=
  ⟨rfl, rfl, rfl, rfl⟩

/-! A COVER or a LEAF is struck (R62). -/

theorem resolve_pins_up {role : Nat} (hr : role ∈ [1, 2]) : (resolve d role 1 h).pins = d.pins := by
  rcases List.mem_pair.1 hr with rfl | rfl <;> rfl

theorem resolve_pins_down {role : Nat} (hr : role ∈ [1, 2]) : (resolve d role 2 h).pins = mirrorPins d.pins := by
  rcases List.mem_pair.1 hr with rfl | rfl <;> rfl

theorem resolve_notch {role : Nat} (hr : role ∈ [1, 2]) (face : Nat) :
    (resolve d role face h).notch = (d.notch && h) := by
  rcases List.mem_pair.1 hr with rfl | rfl <;> rfl

theorem resolve_die (role face : Nat) :
    (resolve d role face h).die = if (resolve d role face h).required = [] then none else some d.die := by
  have hreq : (resolve d role face h).required = [] ↔
      (resolve d role face h).pins = [] ∧ (resolve d role face h).notch = false := by
    simp [Treatment.required]
  simp only [hreq]
  rfl

end

end Sys2Proof.Machine
end

section
/-! SUPPORT. What the punch and the drill list as faulted comes from the engaged set and from the cycle. -/

namespace Sys2Proof.Machine

theorem mem_insertAsc {m c : Nat} {l : List Nat} (h : m ∈ insertAsc c l) : m = c ∨ m ∈ l := by
  induction l with
  | nil => simpa [insertAsc] using h
  | cons x l ih =>
    rw [insertAsc] at h
    split at h
    · simpa using h
    · split at h
      · exact Or.inr h
      · rcases List.mem_cons.1 h with rfl | h
        · exact Or.inr List.mem_cons_self
        · exact (ih h).imp_right (List.mem_cons_of_mem x)

namespace Part

/-! ### The punch -/

theorem markCoil_faulted (c : Nat) (v : PinHealth) (p : Part) : (p.markCoil c v).punch.faulted = p.punch.faulted := by
  unfold markCoil
  split <;> rfl

theorem endEngagement_faulted (w : SkipReason) (l : List Nat) (p : Part) :
    (p.endEngagement w l).punch.faulted = [] := rfl

/-- An over-current report adds the coil it names, if that coil is engaged (R77). -/
theorem mem_faulted_overCurrent {c n : Nat} {p : Part} (h : n ∈ (p.overCurrent c).punch.faulted) :
    n ∈ p.punch.faulted ∨ n ∈ p.punch.engaged := by
  unfold overCurrent at h
  split at h
  · next hc =>
    have hmem : c ∈ p.punch.engaged := by simpa using hc
    split at h
    · simp [endEngagement_faulted] at h
    all_goals simp only [onPunch_fields, markCoil_faulted] at h
    case h_2 | h_3 =>
      rcases mem_insertAsc h with rfl | hn
      · exact Or.inr hmem
      · exact Or.inl hn
    case h_4 | h_5 => exact Or.inl h
  · exact Or.inl (by rwa [markCoil_faulted] at h)

/-! ### The drill -/

theorem onSpindle_faulted (i : Idx4) (f : Spindle → Spindle) (p : Part) :
    (p.onSpindle i f).drill.faulted = p.drill.faulted := rfl

theorem mem_faulted_addFaulted (i j : Idx4) (p : Part) :
    j ∈ (p.addFaulted i).drill.faulted ↔ j = i ∨ j ∈ p.drill.faulted := by
  simp [addFaulted]

/-- The end of a cycle empties the list (R92). -/
theorem endDrillCycle_faulted (p : Part) :
    p.endDrillCycle.drill.faulted = [] ∨ p.endDrillCycle.drill.faulted = p.drill.faulted := by
  unfold endDrillCycle
  split
  · exact Or.inl rfl
  · exact Or.inr rfl

/-- A cycle starts with an empty list (R88). -/
theorem startCycle_faulted (l : List Idx4) (p : Part) : (p.startCycle l).drill.faulted = [] := by
  unfold startCycle
  have hfold : ∀ q : Part, (l.foldl startSpindle q).drill.faulted = q.drill.faulted :=
    foldl_keeps startSpindle (fun q => q.drill.faulted) (fun _ _ => rfl) l
  rcases endDrillCycle_faulted (l.foldl startSpindle (p.onDrill fun d => { d with cycle := l, held := true, faulted := [] }))
    with h | h
  · exact h
  · rw [h, hfold]
    rfl

theorem drillSetup_faulted (p : Part) :
    p.drillSetup.drill.faulted = [] ∨ p.drillSetup.drill.faulted = p.drill.faulted := by
  unfold drillSetup
  split
  · exact Or.inr rfl
  · repeat' split
    all_goals simp [startCycle_faulted]

/-- The end test and the pending setup empty the list or leave it alone (R92). -/
theorem afterSpindle_faulted (p : Part) :
    p.afterSpindle.drill.faulted = [] ∨ p.afterSpindle.drill.faulted = p.drill.faulted := by
  unfold afterSpindle
  dsimp only
  split
  · rcases drillSetup_faulted (p.endDrillCycle.onDrill fun d => { d with pendingSetup := false }) with h | h
    · exact Or.inl h
    · rw [h]
      exact endDrillCycle_faulted p
  · exact endDrillCycle_faulted p

theorem mem_faulted_afterSpindle {j : Idx4} {p : Part} (h : j ∈ p.afterSpindle.drill.faulted) :
    j ∈ p.drill.faulted := by
  rcases afterSpindle_faulted p with e | e <;> rw [e] at h
  · cases h
  · exact h

/-- A plunge window that runs out adds its spindle (R91). -/
theorem mem_faulted_plungeFails {i j : Idx4} {p : Part} (h : j ∈ (p.plungeFails i).drill.faulted) :
    j ∈ p.drill.faulted ∨ j = i := by
  have hadd := mem_faulted_afterSpindle h
  rw [onSpindle_faulted, mem_faulted_addFaulted] at hadd
  exact hadd.symm

/-- Breaking off the spindles of a list adds none but those. -/
theorem mem_faulted_breakOff {j : Idx4} {now : Count} {l : List Idx4} {p : Part}
    (h : j ∈ (l.foldl (fun q i => (q.addFaulted i).onSpindle i (Spindle.breakOff now)) p).drill.faulted) :
    j ∈ p.drill.faulted ∨ j ∈ l := by
  induction l generalizing p with
  | nil => exact Or.inl h
  | cons i l ih =>
    rcases ih h with hq | hl
    · rw [onSpindle_faulted, mem_faulted_addFaulted] at hq
      rcases hq with rfl | hp
      · exact Or.inr List.mem_cons_self
      · exact Or.inl hp
    · exact Or.inr (List.mem_cons_of_mem i hl)

/-- A drill guard that opens in IDLE adds spindles of the cycle alone (R95). -/
theorem mem_faulted_drillGuardInIdle {j : Idx4} {p : Part} (h : j ∈ p.drillGuardInIdle.drill.faulted) :
    j ∈ p.drill.faulted ∨ j ∈ p.drill.cycle := by
  unfold drillGuardInIdle at h
  split at h
  · exact Or.inl h
  · exact (mem_faulted_breakOff (mem_faulted_afterSpindle h)).imp_right List.mem_of_mem_filter

end Part

end Sys2Proof.Machine
end

section
/-! SUPPORT. Strike setup and drill setup, outcome by outcome: the releases of a sheet at a station, the start of a
spindle, the start of a cycle, and its end where every pass is over at once. -/

namespace Sys2Proof.Machine

/-! ### The start of a spindle (R88, R90, R92) -/

namespace Spindle

/-- Entering PLUNGE keeps the copy, the time-out mark and the levels. -/
theorem plunge_keeps (now : Count) (n : Nat) (x : Spindle) :
    ∃ st k d, x.plunge now n = { x with state := st, passes := k, deadline := d } := by
  induction n generalizing x with
  | zero => exact ⟨_, _, _, rfl⟩
  | succ n ih =>
    rw [plunge]
    dsimp only
    split
    · rw [dwellThen]
      split
      · rw [retractThen]
        dsimp only
        split
        · obtain ⟨st, k, d, h⟩ := ih { x with
            state := .retract, passes := n + 1, deadline := some (now + BitVec.ofNat 32 x.profile.retractWindow) }
          exact ⟨st, k, d, h⟩
        · exact ⟨_, _, _, rfl⟩
      · exact ⟨_, _, _, rfl⟩
    · exact ⟨_, _, _, rfl⟩

/-- What a spindle was doing does not matter to the PLUNGE it enters. -/
theorem plunge_forgets (now : Count) (n : Nat) (x : Spindle) (st : SpindleState) (k : Nat) (d : Option Count) :
    { x with state := st, passes := k, deadline := d }.plunge now n = x.plunge now n := by
  cases n <;> rfl

theorem plunge_down_low {now : Count} {n : Nat} {x : Spindle} (hn : 1 ≤ n) (hd : x.downLevel = false) :
    x.plunge now n = { x with
      state := .plunge, passes := n, deadline := some (now + BitVec.ofNat 32 x.profile.plungeWindow) } := by
  obtain ⟨n, rfl⟩ := Nat.exists_eq_add_of_le' hn
  rw [plunge]
  simp [hd]

theorem plunge_dwell {now : Count} {n : Nat} {x : Spindle} (hn : 1 ≤ n) (hd : x.downLevel = true)
    (hw : 0 < x.profile.dwell) :
    x.plunge now n = { x with
      state := .dwell, passes := n, deadline := some (now + BitVec.ofNat 32 x.profile.dwell) } := by
  obtain ⟨n, rfl⟩ := Nat.exists_eq_add_of_le' hn
  have hw' : ¬ x.profile.dwell = 0 := by omega
  rw [plunge]
  dsimp only
  rw [if_pos hd]
  exact if_neg hw'

theorem plunge_no_dwell {now : Count} {n : Nat} {x : Spindle} (hd : x.downLevel = true) (hw : x.profile.dwell = 0) :
    x.plunge now (n + 1) =
      if x.upLevel then x.plunge now n
      else { x with
        state := .retract, passes := n + 1, deadline := some (now + BitVec.ofNat 32 x.profile.retractWindow) } := by
  rw [← plunge_forgets now n x .retract (n + 1) (some (now + BitVec.ofNat 32 x.profile.retractWindow)), plunge]
  dsimp only
  rw [if_pos hd]
  exact if_pos hw

theorem plunge_retract {now : Count} {n : Nat} {x : Spindle} (hn : 1 ≤ n) (hd : x.downLevel = true)
    (hw : x.profile.dwell = 0) (hu : x.upLevel = false) :
    x.plunge now n = { x with
      state := .retract, passes := n, deadline := some (now + BitVec.ofNat 32 x.profile.retractWindow) } := by
  obtain ⟨n, rfl⟩ := Nat.exists_eq_add_of_le' hn
  rw [plunge_no_dwell hd hw, hu]
  rfl

/-- With both levels showing and no dwell, every pass is over in the event that starts the first (R92). -/
theorem plunge_through {now : Count} {n : Nat} {x : Spindle} (hd : x.downLevel = true) (hw : x.profile.dwell = 0)
    (hu : x.upLevel = true) : x.plunge now n = { x with state := .done, passes := 0, deadline := none } := by
  induction n with
  | zero => rfl
  | succ n ih => rw [plunge_no_dwell hd hw, if_pos hu, ih]

end Spindle

theorem Quad.get_map {α β : Type} (f : α → β) (q : Quad α) (i : Idx4) : (q.map f).get i = f (q.get i) := by
  cases i <;> rfl

namespace Part

/-- The profile that the map gives a spindle (R84). -/
def mappedProfile (i : Idx4) (p : Part) : Profile := p.drill.profiles.get (p.drill.map.get i)

/-- The passes of a cycle under that profile (R88). -/
def mappedPasses (i : Idx4) (p : Part) : Nat :=
  if (p.mappedProfile i).mode = .peck then (p.mappedProfile i).peckCount else 1

/-- A spindle with its profile copied by the map. -/
def copied (i : Idx4) (p : Part) : Spindle :=
  { p.spindle i with copy := some ⟨p.drill.map.get i, p.mappedProfile i⟩, timedOut := false }

/-- A spindle as a cycle starts it; `startSpindle_eq` ties it to the model. -/
def started (i : Idx4) (p : Part) : Spindle := (p.copied i).plunge p.timebase.millis (p.mappedPasses i)

/-- Both levels show and there is no dwell, so that a pass is over at once. -/
def PassesThrough (i : Idx4) (p : Part) : Prop :=
  (p.spindle i).downLevel = true ∧ (p.mappedProfile i).dwell = 0 ∧ (p.spindle i).upLevel = true

theorem startSpindle_eq (i : Idx4) (p : Part) : startSpindle p i = p.onSpindle i fun _ => p.started i := rfl

theorem started_plunge {i : Idx4} {p : Part} (hn : 1 ≤ p.mappedPasses i) (hd : (p.spindle i).downLevel = false) :
    p.started i = { p.copied i with
      state := .plunge, passes := p.mappedPasses i, deadline := some (p.msDeadline (p.mappedProfile i).plungeWindow) } :=
  Spindle.plunge_down_low hn hd

theorem started_dwell {i : Idx4} {p : Part} (hn : 1 ≤ p.mappedPasses i) (hd : (p.spindle i).downLevel = true)
    (hw : 0 < (p.mappedProfile i).dwell) :
    p.started i = { p.copied i with
      state := .dwell, passes := p.mappedPasses i, deadline := some (p.msDeadline (p.mappedProfile i).dwell) } :=
  Spindle.plunge_dwell hn hd hw

theorem started_retract {i : Idx4} {p : Part} (hn : 1 ≤ p.mappedPasses i) (hd : (p.spindle i).downLevel = true)
    (hw : (p.mappedProfile i).dwell = 0) (hu : (p.spindle i).upLevel = false) :
    p.started i = { p.copied i with
      state := .retract, passes := p.mappedPasses i
      deadline := some (p.msDeadline (p.mappedProfile i).retractWindow) } :=
  Spindle.plunge_retract hn hd hw hu

theorem started_done {i : Idx4} {p : Part} (h : p.PassesThrough i) :
    p.started i = { p.copied i with state := .done, passes := 0, deadline := none } := by
  obtain ⟨hd, hw, hu⟩ := h
  exact Spindle.plunge_through hd hw hu

/-- A started spindle is at work unless its passes are over at once. -/
theorem started_working {i : Idx4} {p : Part} (hn : 1 ≤ p.mappedPasses i) (h : ¬ p.PassesThrough i) :
    (p.started i).working = true := by
  cases hd : (p.spindle i).downLevel with
  | false => rw [started_plunge hn hd]; rfl
  | true =>
    rcases Nat.eq_zero_or_pos (p.mappedProfile i).dwell with hw | hw
    · cases hu : (p.spindle i).upLevel with
      | false => rw [started_retract hn hd hw hu]; rfl
      | true => exact absurd ⟨hd, hw, hu⟩ h
    · rw [started_dwell hn hd hw]; rfl

/-- Starting a spindle again gives the same spindle, and starting one does not change how another starts. -/
theorem started_startSpindle (i j : Idx4) (p : Part) : (startSpindle p i).started j = p.started j := by
  obtain ⟨st, k, d, h⟩ := Spindle.plunge_keeps p.timebase.millis (p.mappedPasses i) (p.copied i)
  have hcopied : (startSpindle p i).copied j =
      if j = i then { p.copied i with state := st, passes := k, deadline := d } else p.copied j := by
    rw [startSpindle_eq, copied, spindle_onSpindle, started, h]
    split
    · next e => subst e; rfl
    · rfl
  have hstart : (startSpindle p i).started j =
      ((startSpindle p i).copied j).plunge p.timebase.millis (p.mappedPasses j) := rfl
  rw [hstart, hcopied]
  split
  · next e => subst e; exact Spindle.plunge_forgets _ _ _ _ _ _
  · rfl

/-! ### The start of a cycle -/

/-- Starting the spindles of a list starts each of them and leaves the others alone. -/
theorem spindle_startAll (l : List Idx4) (p : Part) (j : Idx4) :
    (l.foldl startSpindle p).spindle j = if j ∈ l then p.started j else p.spindle j := by
  induction l generalizing p with
  | nil => simp
  | cons i l ih =>
    rw [List.foldl_cons, ih, started_startSpindle, startSpindle_eq, spindle_onSpindle]
    by_cases hl : j ∈ l
    · simp [hl]
    · by_cases hi : j = i
      · subst hi; simp
      · simp [hl, hi]

/-- Starting spindles changes the spindles alone. -/
theorem startAll_frame (l : List Idx4) (p : Part) :
    l.foldl startSpindle p =
      { p with drill := { p.drill with spindles := (l.foldl startSpindle p).drill.spindles } } := by
  induction l generalizing p with
  | nil => rfl
  | cons i l ih =>
    rw [List.foldl_cons]
    exact ih (startSpindle p i)

/-- The part whose cycle is a list of spindles, each of them started (R88). -/
def cycleStarted (l : List Idx4) (p : Part) : Part :=
  l.foldl startSpindle (p.onDrill fun d => { d with cycle := l, held := true, faulted := [] })

theorem startCycle_eq (l : List Idx4) (p : Part) : p.startCycle l = (p.cycleStarted l).endDrillCycle := rfl

theorem spindle_cycleStarted (l : List Idx4) (p : Part) (j : Idx4) :
    (p.cycleStarted l).spindle j = if j ∈ l then p.started j else p.spindle j := spindle_startAll l _ j

theorem cycleStarted_frame (l : List Idx4) (p : Part) :
    p.cycleStarted l = { p with drill := { p.drill with
      spindles := (p.cycleStarted l).drill.spindles, cycle := l, held := true, faulted := [] } } :=
  startAll_frame l _

theorem cycleStarted_drill (l : List Idx4) (p : Part) : (p.cycleStarted l).drill.cycle = l ∧
    (p.cycleStarted l).drill.held = true ∧ (p.cycleStarted l).drill.faulted = [] := by
  rw [cycleStarted_frame]
  exact ⟨rfl, rfl, rfl⟩

/-- The cycle goes on while one of its spindles is at work (R92). -/
theorem endDrillCycle_working {p : Part} {i : Idx4} (hi : i ∈ p.drill.cycle) (hw : (p.spindle i).working = true) :
    p.endDrillCycle = p := by
  have hover : ¬ p.cycleOver = true := by
    simp only [cycleOver, Bool.and_eq_true, List.all_eq_true, not_and, not_forall]
    exact fun _ => ⟨i, hi, by simp [hw]⟩
  rw [endDrillCycle, if_neg hover]

/-- A cycle that holds its sheet and has faulted no spindle ends DRILLED, with each DONE spindle IDLE (R92). -/
theorem endDrillCycle_drilled {p : Part} (hc : p.drill.cycle ≠ []) (hf : p.drill.faulted = [])
    (hh : p.drill.held = true) (hw : ∀ i ∈ p.drill.cycle, (p.spindle i).working = false) :
    p.endDrillCycle = (p.releaseDrill .drilled none []).onDrill fun d =>
      { d with spindles := d.spindles.map fun x => if x.state = .done then x.toIdle else x
               cycle := [], held := false, faulted := [] } := by
  have hover : p.cycleOver = true := by simpa [cycleOver, hc] using hw
  rw [endDrillCycle, if_pos hover]
  simp [hf, hh]

/-! ### What a started cycle leaves -/

/-- With a pass still to be made the cycle goes on, with the spindles just started. -/
theorem startCycle_runs {l : List Idx4} {p : Part} {i : Idx4} (hi : i ∈ l) (hn : 1 ≤ p.mappedPasses i)
    (h : ¬ p.PassesThrough i) : p.startCycle l = p.cycleStarted l := by
  obtain ⟨hcycle, -, -⟩ := cycleStarted_drill l p
  rw [startCycle_eq]
  refine endDrillCycle_working (i := i) (by rwa [hcycle]) ?_
  rw [spindle_cycleStarted, if_pos hi]
  exact started_working hn h

section
variable {l : List Idx4} {p : Part} (hne : l ≠ []) (hthrough : ∀ i ∈ l, p.PassesThrough i)
include hne hthrough

/-- A cycle whose passes are all over at once ends in the event that starts it (R92). -/
theorem startCycle_ends : p.startCycle l = ((p.cycleStarted l).releaseDrill .drilled none []).onDrill fun d =>
    { d with spindles := d.spindles.map fun x => if x.state = .done then x.toIdle else x
             cycle := [], held := false, faulted := [] } := by
  obtain ⟨hcycle, hheld, hfaulted⟩ := cycleStarted_drill l p
  rw [startCycle_eq]
  refine endDrillCycle_drilled (by rwa [hcycle]) hfaulted hheld ?_
  rw [hcycle]
  intro i hi
  rw [spindle_cycleStarted, if_pos hi, started_done (hthrough i hi)]
  rfl

theorem startCycle_ends_frame : p.startCycle l = { p.releaseDrill .drilled none [] with
    drill := { p.drill with spindles := (p.startCycle l).drill.spindles, cycle := [], held := false, faulted := [] } } := by
  rw [startCycle_ends hne hthrough, cycleStarted_frame]
  rfl

/-- The spindles of such a cycle are IDLE again, and the others stay as they are. -/
theorem startCycle_ends_spindle (hidle : ∀ i, (p.spindle i).state = .idle) (j : Idx4) :
    (p.startCycle l).spindle j = if j ∈ l then (p.spindle j).toIdle else p.spindle j := by
  have hmap : (p.startCycle l).spindle j =
      if ((p.cycleStarted l).spindle j).state = .done then ((p.cycleStarted l).spindle j).toIdle
      else (p.cycleStarted l).spindle j := by
    rw [startCycle_ends hne hthrough]
    exact Quad.get_map _ (p.cycleStarted l).drill.spindles j
  rw [hmap, spindle_cycleStarted]
  split
  · next hj => rw [started_done (hthrough j hj)]; rfl
  · rw [hidle j]; rfl

end

/-- A cycle's start leaves the spindles outside the cycle as they are, whether or not it ends at once. -/
theorem startCycle_spindle_others {l : List Idx4} {p : Part} (hne : l ≠ []) (hn : ∀ i ∈ l, 1 ≤ p.mappedPasses i)
    (hidle : ∀ i, (p.spindle i).state = .idle) {j : Idx4} (hj : j ∉ l) : (p.startCycle l).spindle j = p.spindle j := by
  by_cases hthrough : ∀ i ∈ l, p.PassesThrough i
  · rw [startCycle_ends_spindle hne hthrough hidle, if_neg hj]
  · push Not at hthrough
    obtain ⟨i, hi, hwork⟩ := hthrough
    rw [startCycle_runs hi (hn i hi) hwork, spindle_cycleStarted, if_neg hj]

/-! ### The sheet leaves a station -/

section
variable {p : Part} {e : Entry} {es fs : List Entry} (hq : p.tracker.queue = es ++ e :: fs)
include hq

theorem releasePunch_append (hl : ∀ x ∈ es, x.stage ≠ .atPunch) (he : e.stage = .atPunch) (r : PunchResult)
    (w : Option SkipReason) (l : List Nat) :
    p.releasePunch r w l = { p with tracker := { p.tracker with queue := es ++ { e with
      stage := .toDrill, punchResult := some r, punchSkip := w, faultedPins := l
      deadline := some ⟨.position, p.posDeadline p.timebase.settings.mid⟩ } :: fs } } :=
  modifyOldest_append _ hq hl he

theorem releaseDrill_append (hl : ∀ x ∈ es, x.stage ≠ .atDrill) (he : e.stage = .atDrill) (r : DrillResult)
    (w : Option SkipReason) (l : List Idx4) :
    p.releaseDrill r w l = { p with tracker := { p.tracker with queue := es ++ { e with
      stage := .toGate, drillResult := some r, drillSkip := w, faultedSpindles := l
      deadline := some ⟨.position, p.posDeadline p.timebase.settings.runOut⟩ } :: fs } } :=
  modifyOldest_append _ hq hl he

end

/-! ### Strike setup, in the order of R69 -/

section
variable {p : Part} {e : Entry} (ho : p.oldest .atPunch = some e)
include ho

theorem strikeSetup_void (hv : e.isVoid = true) : p.strikeSetup = p.releasePunch .skipped (some .voidEntry) [] := by
  simp [strikeSetup, ho, hv]

variable (hv : e.isVoid = false)
include hv

theorem strikeSetup_spoiled (hs : p.bookSpoiled e.book = true) :
    p.strikeSetup = p.releasePunch .skipped (some .bookSpoiled) [] := by
  simp [strikeSetup, ho, hv, hs]

variable (hs : p.bookSpoiled e.book = false)
include hs

theorem strikeSetup_notRequired (hr : (p.treatment e).required = []) :
    p.strikeSetup = p.releasePunch .notRequired none [] := by
  simp [strikeSetup, ho, hv, hs, hr]

variable (hr : (p.treatment e).required ≠ [])
include hr

theorem strikeSetup_stationOff (hoff : p.effective .punch = false) :
    p.strikeSetup = p.releasePunch .skipped (some .stationOff) [] := by
  simp [strikeSetup, ho, hv, hs, hr, hoff]

/-- The checks on the die and on the coils, and the engagement. -/
theorem strikeSetup_effective (hon : p.effective .punch = true) :
    let bad := (p.treatment e).required.filter fun c => p.coilHealth c != .ok
    p.strikeSetup =
      if dieMatches (p.treatment e).die p.punch.dieLines = false then p.releasePunch .skipped (some .dieMismatch) []
      else if bad ≠ [] then p.releasePunch .skipped (some .pinFault) bad
      else p.engage (p.treatment e) := by
  simp only [strikeSetup, ho, hv, hs, hr, hon, Bool.not_true, Bool.false_eq_true, if_false, Bool.not_eq_true']

end

/-! ### Drill setup, in the order of R88 -/

section
variable {p : Part} {e : Entry} (ho : p.oldest .atDrill = some e)
include ho

theorem drillSetup_void (hv : e.isVoid = true) : p.drillSetup = p.releaseDrill .skipped (some .voidEntry) [] := by
  simp [drillSetup, ho, hv]

variable (hv : e.isVoid = false)
include hv

theorem drillSetup_spoiled (hs : p.bookSpoiled e.book = true) :
    p.drillSetup = p.releaseDrill .skipped (some .bookSpoiled) [] := by
  simp [drillSetup, ho, hv, hs]

variable (hs : p.bookSpoiled e.book = false)
include hs

theorem drillSetup_notRequired (hr : (p.treatment e).spindles = []) :
    p.drillSetup = p.releaseDrill .notRequired none [] := by
  simp [drillSetup, ho, hv, hs, hr]

variable (hr : (p.treatment e).spindles ≠ [])
include hr

theorem drillSetup_stationOff (hoff : p.effective .drill = false) :
    p.drillSetup = p.releaseDrill .skipped (some .stationOff) [] := by
  simp [drillSetup, ho, hv, hs, hr, hoff]

theorem drillSetup_effective (hon : p.effective .drill = true) :
    p.drillSetup = p.startCycle (p.treatment e).spindles := by
  simp [drillSetup, ho, hv, hs, hr, hon]

end

end Part
end Sys2Proof.Machine
end

section
/-! SUPPORT. The statement on what a sheet receives, assembled from the treatment, the faulted lists and the setups. -/

namespace Sys2Proof.Machine

/-- Settles O37: the treatment field by field, the two faulted lists, and each setup outcome by outcome. -/
theorem treatmentResolves : Obligations.TreatmentResolves := by
  refine ⟨fun d h => ?treatment, fun p c n => Part.mem_faulted_overCurrent, fun p i _ j => Part.mem_faulted_plungeFails,
    fun p j => Part.mem_faulted_drillGuardInIdle, ?setup⟩
  case treatment =>
    refine ⟨resolve_spindles_up d h, fun _ i => mem_mirrorSpindles i d.drill, fun _ => Idx4.sorted_ascending _,
      fun _ => mirrorSpindles_length, Idx4.mirror_toNat, resolve_board d h, fun role hr => ?upAndNotch,
      fun role hr => ?length, fun role hr hpins n h1 h48 => ?mirrored, fun role hr hpins hasc => ?ascending,
      fun _ _ => rfl, fun role face he => ?noDie, fun role face he => ?die⟩
    case upAndNotch => exact ⟨resolve_pins_up d h hr, resolve_notch d h hr 1, resolve_notch d h hr 2⟩
    case length => rw [resolve_pins_down d h hr, mirrorPins_length]
    case mirrored => rw [resolve_pins_down d h hr, mem_mirrorPins hpins h1 h48]
    case ascending => exact resolve_pins_down d h hr ▸ mirrorPins_ascending hpins hasc
    case noDie => rw [resolve_die, if_pos he]
    case die => rw [resolve_die, if_neg he]
  case setup =>
    intro p e es fs hq t d sound skips past queue
    refine ⟨fun _ => rfl, fun hes hst => ?strike, fun hes hst => ?drill⟩
    case strike =>
      have ho := Part.oldest_append hq hes hst
      have hrel := Part.releasePunch_append hq hes hst
      refine ⟨⟨fun hv => ?void, fun hv hs => ?spoiled⟩, fun ⟨hv, hs⟩ hr => ?notRequired,
        fun ⟨hv, hs⟩ hr hoff => ?stationOff, fun ⟨hv, hs⟩ hr hon => ?effective⟩
      case void => exact (Part.strikeSetup_void ho hv).trans (hrel _ _ _)
      case spoiled => exact (Part.strikeSetup_spoiled ho hv hs).trans (hrel _ _ _)
      case notRequired => exact (Part.strikeSetup_notRequired ho hv hs hr).trans (hrel _ _ _)
      case stationOff => exact (Part.strikeSetup_stationOff ho hv hs hr hoff).trans (hrel _ _ _)
      case effective =>
        have hchecks := Part.strikeSetup_effective ho hv hs hr hon
        simp only [hrel] at hchecks
        exact hchecks
    case drill =>
      have ho := Part.oldest_append hq hes hst
      have hrel := Part.releaseDrill_append hq hes hst
      refine ⟨⟨fun hv => ?void, fun hv hs => ?spoiled⟩, fun ⟨hv, hs⟩ hr => ?notRequired,
        fun ⟨hv, hs⟩ hr hoff => ?stationOff, fun ⟨hv, hs⟩ hr hon hpasses hidle => ?cycle⟩
      case void => exact (Part.drillSetup_void ho hv).trans (hrel _ _ _)
      case spoiled => exact (Part.drillSetup_spoiled ho hv hs).trans (hrel _ _ _)
      case notRequired => exact (Part.drillSetup_notRequired ho hv hs hr).trans (hrel _ _ _)
      case stationOff => exact (Part.drillSetup_stationOff ho hv hs hr hoff).trans (hrel _ _ _)
      case cycle =>
        rw [Part.drillSetup_effective ho hv hs hr hon]
        refine ⟨fun j hj => ?others, fun ⟨i, hi, hwork⟩ => ⟨fun j hj => ?starts, ?runs⟩,
          fun hthrough => ⟨fun j hj => ?idle, ?ends⟩⟩
        case others => exact Part.startCycle_spindle_others hr hpasses hidle hj
        case starts =>
          rw [Part.startCycle_runs hi (hpasses i hi) hwork, Part.spindle_cycleStarted, if_pos hj]
          exact ⟨Part.started_plunge (hpasses j hj), Part.started_dwell (hpasses j hj),
            Part.started_retract (hpasses j hj), Part.started_done⟩
        case runs =>
          rw [Part.startCycle_runs hi (hpasses i hi) hwork]
          exact Part.cycleStarted_frame _ p
        case idle => rw [Part.startCycle_ends_spindle hr hthrough hidle, if_pos hj]
        case ends =>
          have hframe := Part.startCycle_ends_frame hr hthrough
          rw [hrel] at hframe
          exact hframe

end Sys2Proof.Machine
end

section
/-! SUPPORT. Deadlines: the test on two counts, the segment slots it judges, and the station windows it judges. -/

namespace Sys2Proof.Machine

/-! ### The test on two counts (R130) -/

theorem passed_iff (d c : Count) : passed d c = true ↔ 1 ≤ (c - d).toNat ∧ (c - d).toNat < 2 ^ 31 := by
  simp only [passed, Bool.and_eq_true, decide_eq_true_eq]

/-- The difference of two counts, with the borrow made a multiple of 2^32. -/
theorem toNat_count_sub (d c : Count) : (c - d).toNat = (c.toNat + 2 ^ 32 - d.toNat) % 2 ^ 32 := by
  have hd := d.isLt
  rw [BitVec.toNat_sub]
  congr 1
  omega

/-- Only the difference counts: one offset on the deadline and on the count changes nothing. -/
theorem passed_add_left (c x y : Count) : passed (c + x) (c + y) = passed x y := by
  simp only [passed, add_sub_add_left_eq_sub]

/-- Up to a window shorter than half the counter's range the difference is 0 or has wrapped into the upper half. -/
theorem passed_within_window {w k : Nat} (hk : k ≤ w) (hw : w < 2 ^ 31) :
    passed (BitVec.ofNat 32 w) (BitVec.ofNat 32 k) = false := by
  rw [← Bool.not_eq_true, passed_iff, toNat_count_sub, BitVec.toNat_ofNat, BitVec.toNat_ofNat]
  omega

theorem passed_one_beyond (w : Nat) : passed (BitVec.ofNat 32 w) (BitVec.ofNat 32 (w + 1)) = true := by
  have hdiff : BitVec.ofNat 32 (w + 1) - BitVec.ofNat 32 w = 1#32 := by
    rw [BitVec.ofNat_add, add_sub_cancel_left]
  rw [passed_iff, hdiff]
  decide

namespace Part

/-! ### What the test is applied to (R131) -/

theorem slot_eq_some {p : Part} {seg : Segment} {d : Deadline} {e : Entry} :
    p.slot seg = some (d, e) ↔ p.oldest seg.stage = some e ∧ e.deadline = some d := by
  unfold slot
  cases p.oldest seg.stage with
  | none => simp
  | some f =>
    simp only [Option.map_eq_some_iff, Prod.mk.injEq, Option.some.injEq]
    constructor
    · rintro ⟨_, hd, rfl, rfl⟩
      exact ⟨rfl, hd⟩
    · rintro ⟨rfl, hd⟩
      exact ⟨d, hd, rfl, rfl⟩

theorem bindState_iff (st : CloserState) :
    bindState st = true ↔ st ∈ [CloserState.clamp, .hanger, .feed, .cut, .close, .eject] := by
  cases st <;> decide

theorem msPassed_some (d : Count) (p : Part) : p.msPassed (some d) = passed d p.timebase.millis := rfl

/-! ### When a deadline's step is due -/

theorem isDue_jam {p : Part} {seg : Segment} {d : Deadline} {e : Entry} (h : p.slot seg = some (d, e))
    (hl : p.sup.line ≠ .halt) : p.isDue (.jam seg) = passed d.count (p.countOf d.kind) := by
  simp [isDue, slotPassed, h, hl]

theorem spindlePassed_eq {p : Part} {i : Idx4} {d : Count} {st : SpindleState} (hd : (p.spindle i).deadline = some d)
    (hs : (p.spindle i).state = st) : p.spindlePassed st i = passed d p.timebase.millis := by
  simp [spindlePassed, hs, hd, msPassed_some]

section
variable {p : Part} {d : Count}

theorem isDue_ramStall (hd : p.punch.deadline = some d) (hs : p.punch.state = .strike) (hl : p.sup.line ≠ .halt) :
    p.isDue .ramStall = passed d p.timebase.millis := by
  simp [isDue, hd, hs, hl, msPassed_some]

theorem isDue_ramStuck (hd : p.punch.deadline = some d) (hs : p.punch.state = .ramReturn) :
    p.isDue .ramStuck = passed d p.timebase.millis := by
  simp [isDue, hd, hs, msPassed_some]

theorem isDue_closerWindow (hd : p.closer.deadline = some d) (hs : bindState p.closer.state = true) :
    p.isDue .closerWindow = passed d p.timebase.millis := by
  simp [isDue, hd, hs, msPassed_some]

theorem isDue_dumpWindow (hd : p.closer.deadline = some d) (hs : p.closer.state = .dump) :
    p.isDue .dumpWindow = passed d p.timebase.millis := by
  simp [isDue, hd, hs, msPassed_some]

end

end Part

/-- Settles O4: the test on two counts, the slots and counts it is applied to, and each window by its own step. -/
theorem deadlinePassed : Obligations.DeadlinePassed := by
  refine ⟨fun d c => ?difference, fun c w k hk hw => ?within, fun c w => ?beyond, rfl, fun _ _ _ _ => Part.slot_eq_some,
    fun _ => ⟨rfl, rfl⟩, Part.bindState_iff, fun _ _ _ _ => Part.isDue_jam,
    fun p i d hd => ⟨Part.spindlePassed_eq hd, Part.spindlePassed_eq hd, Part.spindlePassed_eq hd⟩,
    fun p d hd => ⟨Part.isDue_ramStall hd, Part.isDue_ramStuck hd⟩,
    fun p d hd => ⟨Part.isDue_closerWindow hd, Part.isDue_dumpWindow hd⟩⟩
  case difference =>
    rw [passed_iff, toNat_count_sub, Nat.le_sub_one_iff_lt (by decide)]
  case within => rw [passed_add_left, passed_within_window hk hw]
  case beyond => rw [passed_add_left, passed_one_beyond]

end Sys2Proof.Machine
end

section
/-! SUPPORT. What a step can do, said once: it idles, takes a due step, or lets an event fall on the settled part; and
the induction from which every property that each of these keeps is kept by every step. -/

namespace Sys2Proof.Machine

/-- The event of a row from outside; the rows of the part's own and the requests have none. -/
def outsideEvent : Instr → Option (Part → Part)
  | .ticketReceived bytes close => some (Part.ticketArrives bytes close)
  | .straySymbol y => some (Part.symbolArrives y)
  | .startReceived => some Part.startSymbol
  | .downstreamHold x => some (Part.onPort fun y => { y with downHold := x })
  | .transmitBegin => some Part.beginTransmit
  | .ticketSent => some Part.ticketLeaves
  | .entrySensor double => some (Part.entrySensor double)
  | .punchRegister => some Part.punchRegister
  | .drillRegister => some Part.drillRegister
  | .exitSensor => some Part.exitSensor
  | .landing l => some (Part.sheetLands l)
  | .latchCheckReport l => some (Part.latchCheck l)
  | .overCurrent c => some (Part.overCurrent c)
  | .ramDown => some Part.ramReachesBottom
  | .ramUp => some Part.ramReachesTop
  | .ramUpLevelClears => some (Part.onPunch fun x => { x with ramUpLevel := false })
  | .dieIdentityChange l => some (Part.onPunch fun x => { x with dieLines := l })
  | .spindleDown i => some (Part.spindleReachesBottom i)
  | .spindleUp i => some (Part.spindleReachesTop i)
  | .spindleLevelClears i y => some (Part.onSpindle i fun x => match y with
      | .down => { x with downLevel := false }
      | .up => { x with upLevel := false })
  | .clampDone => some Part.clampDone
  | .hangerIn => some Part.hangerIn
  | .hangerEmpty => some Part.hangerRunsEmpty
  | .hangerEmptyClears => some (Part.onCloser fun c => { c with hangerEmpty := false })
  | .loopPulse => some Part.loopPulse
  | .cutDone => some Part.cutDone
  | .closeDone => some Part.closeDone
  | .ejectDone => some Part.ejectDone
  | .dumpDone => some Part.dumpDone
  | .referenceTick good => some fun p => if good then p.goodTick else p.badTick
  | .referenceGap => some Part.badTick
  | .encoderEdge x => some (Part.encoderEdge x)
  | .guardOpen x => some (Part.openGuardOf x)
  | .guardClose x => some (Part.closeGuardOf x)
  | .supplyLow => some Part.supplyFalls
  | .supplyLowInactive => some (Part.onSup fun u => { u with supplyLow := false })
  | .driverShutdown => some Part.driverShuts
  | .driverShutdownInactive => some (Part.onSup fun u => { u with driverShutdown := false })
  | .driverHot => some Part.driverHeats
  | .driverHotInactive => some (Part.onSup fun u => { u with driverHot := false })
  | .externalStop => some Part.stopPressed
  | .stopInputInactive => some (Part.onSup fun u => { u with stopInput := false })
  | .powerOn pins => some (Part.resetTo pins true)
  | .hardReset pins => some fun p => p.resetTo pins p.sup.powerUpFlag
  | _ => none

/-- What a step of a part can be: nothing, one of the part's own steps that is due, or a row's event on the settled
part. -/
inductive PartStep (c : Instr) (p : Part) : Part → Prop where
  | idle : PartStep c p p
  | due (d : Due) (h : p.isDue d = true) : PartStep c p (p.takeDue d)
  | event (f : Part → Part) (h : outsideEvent c = some f) : PartStep c p (f p.settle)

theorem internal_partStep (c : Instr) (d : Due) (s : State) :
    ∃ q, internal d s = .next (s.withPart q) ∧ PartStep c s.toPart q := by
  cases h : s.toPart.isDue d with
  | false => exact ⟨_, internal_not_due h, .idle⟩
  | true => exact ⟨_, internal_due h, .due d h⟩

theorem request_partStep (c : Instr) (codes : Nat → Bool) (s : State) :
    ∃ q, request codes s = .next (s.withPart q) ∧ PartStep c s.toPart q := by
  by_cases h : (s.toPart.executable.any fun it => codes it.ticket.code) = true
  · refine ⟨s.toPart.executeHead, by rw [request, if_pos h], PartStep.due .execute ?_⟩
    obtain ⟨hsome, -⟩ := (Option.any_eq_true_iff_get _ _).1 h
    exact hsome
  · exact ⟨s.toPart, by rw [request, if_neg h], .idle⟩

theorem external_partStep {c : Instr} {f : Part → Part} (h : outsideEvent c = some f) (s : State) :
    ∃ q, external f s = .next (s.withPart q) ∧ PartStep c s.toPart q :=
  ⟨_, external_next f s, .event f h⟩

/-- Every command answers a next state, whose part a `PartStep` gives. -/
theorem exec_partStep (c : Instr) (s : State) : ∃ q, exec c s = .next (s.withPart q) ∧ PartStep c s.toPart q := by
  cases c
  case resetCompletes | ticketClassified | sheetAdmitted | jam | ramStall | ramStuck | dwellRunsOut |
      plungeWindowRunsOut | drillStuck | closerWindowRunsOut | dumpWindowRunsOut =>
    exact internal_partStep _ _ s
  case readStatus | readQueue | readBook | readPattern | readDrill | readCloser | readHalt | run | stop | halt | resume |
      clearFaults | reset | loadPattern | clearPattern | setPunch | setProfile | mapSpindles | setCloser | setTimebase |
      startTimebase | stations | service | setLine | amendBook | cancelBook | unknownRequest =>
    dsimp only [exec, execReadStatus, execReadQueue, execReadBook, execReadPattern, execReadDrill, execReadCloser,
      execReadHalt, execRun, execStop, execHalt, execResume, execClearFaults, execReset, execLoadPattern,
      execClearPattern, execSetPunch, execSetProfile, execMapSpindles, execSetCloser, execSetTimebase,
      execStartTimebase, execStations, execService, execSetLine, execAmendBook, execCancelBook, execUnknownRequest]
    exact request_partStep _ _ s
  case referenceTick good => exact external_partStep (f := fun p => if good then p.goodTick else p.badTick) rfl s
  case hardReset pins => exact external_partStep (f := fun p => p.resetTo pins p.sup.powerUpFlag) rfl s
  all_goals exact external_partStep rfl s

/-- A property of parts that every due step and every event keeps is kept by every step of the machine. -/
theorem step_induct {P : Part → Prop} (due : ∀ d p, P p → p.isDue d = true → P (p.takeDue d))
    (event : ∀ c f, outsideEvent c = some f → ∀ p, P p → P (f p)) {s t : State} (h : P s.toPart)
    (hs : step s = .next t) : P t.toPart := by
  unfold step at hs
  split at hs
  · cases hs; exact h
  · next c rest hc =>
    obtain ⟨q, hq, hstep⟩ := exec_partStep c { s with pending := rest }
    rw [hq] at hs
    cases hs
    cases hstep with
    | idle => exact h
    | due d hd => exact due d _ h hd
    | event f hf => exact event c f hf _ (Part.settle_induct P due _ h)

/-! ### Steps -/

/-- Settles O1: a step is `exec` by definition, and every command answers as `exec_partStep` says. -/
theorem stepRunsFrontCommand : Obligations.StepRunsFrontCommand :=
  ⟨fun _ _ _ => rfl, fun _ => rfl, fun c s => (exec_partStep c s).imp fun _ h => h.1⟩

end Sys2Proof.Machine
end

section
/-! SUPPORT. What a step is made of, said once: the moves of the part, each with what its caller has tested before, and
that every due step and every event but a reset is a chain of moves. An invariant is then a property that every move
keeps. -/

namespace Sys2Proof.Machine

/-- A change that sends an entry on to a stage: what names the sheet stays. -/
def Entry.SentTo (b : Stage) (f : Entry → Entry) : Prop :=
  ∀ e, (f e).stage = b ∧ (f e).voidReason = e.voidReason ∧ (f e).book = e.book ∧ (f e).pattern = e.pattern

namespace Part

/-- The line is in RUN or HOLD. -/
def Running (p : Part) : Prop := p.sup.line = .run ∨ p.sup.line = .hold

/-- The link's share of `WithinCapacity`. -/
def PortsFit (p : Part) : Prop :=
  p.placesOccupied ≤ 4 ∧ p.slotsUsed ≤ 8 ∧ p.cmd.list.length ≤ 4 ∧
  ∀ r ∈ p.cmd.resetting, ∃ it ∈ p.cmd.list.head?, r.reserved = it.addressed

/-- What an event of the timebase keeps from START TIMEBASE on (R122). -/
def ClockKept (t u : Timebase) : Prop := t.state ≠ .unset → u.settings = t.settings ∧ u.state ≠ .unset

/-- Two parts that the invariants cannot tell apart, but for what a ticket's end and a line that stops change. -/
structure Alike (p q : Part) : Prop where
  queue : q.tracker.queue = p.tracker.queue
  nextId : q.tracker.nextId = p.tracker.nextId
  pattern : ∀ n, q.pattern? n = p.pattern? n
  useCount : ∀ n, q.useCount n = p.useCount n
  books : q.books = p.books
  closerState : q.closer.state = p.closer.state
  current : q.closer.current = p.closer.current
  pocketA : q.closer.pocketA = p.closer.pocketA
  pocketB : q.closer.pocketB = p.closer.pocketB
  requests : q.closer.requests = p.closer.requests
  settings : q.timebase.settings = p.timebase.settings
  clock : q.timebase.state = p.timebase.state
  lock : q.stations.lock = p.stations.lock
  outOfService : q.stations.outOfService = p.stations.outOfService
  sending : q.port.sending = p.port.sending ∨ q.port.sending = none
  halted : q.sup.line = .halt → p.sup.line = .halt
  running : q.Running → p.Running
  ports : p.PortsFit → q.PortsFit

/-- A move of the part. The hypotheses are what the part has tested before it makes the move. -/
inductive Move : Part → Part → Prop where
  | alike {p q : Part} (h : Alike p q) : Move p q
  | clock {p : Part} (f : Timebase → Timebase) (hk : ClockKept p.timebase (f p.timebase))
      (hv : p.Running → p.timebase.state = .valid → (f p.timebase).state = .valid) : Move p (p.onTimebase f)
  | service {p : Part} (f : Stations → Stations)
      (h : p.stations.lock = true → (f p.stations).lock = true ∧ (f p.stations).outOfService = p.stations.outOfService) :
      Move p (p.onStations f)
  | pattern {p : Part} (n : Nat) (d : Option PatternDef) (h : n ≠ 0) :
      Move p (p.setPattern n fun x => { x with loaded := d })
  | run {p : Part} (h : p.timebase.state = .valid) : Move p (p.onSup fun u => { u with line := .run })
  | stop {p : Part} (f : Timebase → Timebase) (hk : ClockKept p.timebase (f p.timebase)) (hl : p.sup.line ≠ .halt) :
      Move p (p.onTimebase f).stopAll
  | advance {p : Part} (a b : Stage) (f : Entry → Entry) (hf : Entry.SentTo b f) (hab : b.code = a.code + 1)
      (hb : b ≠ .done) (hw : a = .waiting → p.sup.line ≠ .halt)
      (hone : b ∈ [Stage.atPunch, .atDrill, .atGate] → p.hasStage b = false) : Move p (p.modifyOldest a f)
  | land {p : Part} (l : LandingSensor) (e : Entry) (ho : p.oldest .dropping = some e) : Move p (p.finishLanding l e)
  | push {p : Part} (t : Ticket) (f : SheetFields) (r : VoidReason) (hq : p.tracker.queue.length < 24) :
      Move p (p.pushEntry t f (some r))
  | continues {p : Part} (t : Ticket) (f : SheetFields) (b : Book) (hq : p.tracker.queue.length < 24)
      (hb : p.book? f.book = some b) (ha : b.admitted < b.expected) : Move p ((p.continueBook f).pushEntry t f none)
  | opens {p : Part} (t : Ticket) (f : SheetFields) (h : BookHeader) (hq : p.tracker.queue.length < 24)
      (hb : p.book? f.book = none) (hr : p.books.records.length < 12) (h2 : 2 ≤ h.expected) (h60 : h.expected ≤ 60) :
      Move p ((p.openBook f h).pushEntry t f none)
  | mark {p : Part} (m : Option Nat) : Move p (p.markEntry m)
  | freeHead {p : Part} (x : Sending) (hs : p.port.sending = some x) (ho : x.owner = .report) :
      Move p (p.onPort fun y => { y with sending := none }).freeHead
  | freeRecord {p : Part} (x : Sending) (hs : p.port.sending = some x) (ho : x.owner = .bookDone) :
      Move p (p.onPort fun y => { y with sending := none }).freeRecord
  | send {p : Part} (x : Sending) (hr : x.owner = .report → p.tracker.queue.head?.any (fun e => e.stage == .done) = true)
      (hb : x.owner = .bookDone → (∀ e ∈ p.tracker.queue.head?, e.stage ≠ .done) ∧
        ∃ i b, p.books.endOrder.head? = some i ∧ p.recordById? i = some b) :
      Move p (p.onPort fun y => { y with sending := some x })
  | spoil {p : Part} (n : Nat) (why : SpoilReason) (lower : Bool) (h : why ≠ .closerFault ∧ why ≠ .lineHalt) :
      Move p (p.spoil n why lower)
  | fail {p : Part} (c : CloserCause) (h : p.cycleRunning .closer = true) : Move p (p.closerFails c)
  | closerStep {p : Part} (st : CloserState) (w : CloserWindows → Nat) (h : bindState p.closer.state = true)
      (h' : bindState st = true) : Move p (p.enterCloser st w)
  | take {p : Part} (k : PocketId) (h : p.takeable = some k) : Move p (p.take k)
  | eject {p : Part} (h : p.closer.state = .eject) : Move p p.ejectBound
  | dump {p : Part} (h : p.closer.state = .dump) : Move p p.dumpEmptied
  | clear {p : Part} : Move p p.clearCloser
  | grant {p : Part} (k : PocketId) (e : Entry) (b : Book) (he : e ∈ p.tracker.queue) (hs : e.stage = .atGate)
      (hv : e.isVoid = false) (hb : p.book? e.book = some b) (hn : b.state ≠ .spoiled) (hp : b.pocket = none)
      (hk : p.freePocket = some k) : Move p (p.grant k e.book)
  | amend {p : Part} (b : Book) (loops : Nat) : Move p (p.amend b loops)
  | flush {p : Part} (h : p.sup.line = .halt) : Move p (p.finishAll (fun e => e.stage == .waiting) .flushed)
  | linkReset {p : Part} : Move p p.linkReset

/-- A chain of moves. -/
abbrev Moves : Part → Part → Prop := Relation.ReflTransGen Move

theorem Moves.single {p q : Part} (h : Move p q) : Moves p q := Relation.ReflTransGen.single h

theorem Alike.moves {p q : Part} (h : Alike p q) : Moves p q := .single (.alike h)

/-! ### Parts that are alike -/

theorem PortsFit.congr {p q : Part} (hrx : q.port.rx = p.port.rx) (hb : q.port.rxBuf = p.port.rxBuf)
    (ho : q.port.outList = p.port.outList) (hc : q.cmd = p.cmd) (h : p.PortsFit) : q.PortsFit := by
  simp only [PortsFit, placesOccupied, slotsUsed, hrx, hb, ho, hc] at h ⊢
  exact h

/-- Only the punch and the drill differ. -/
theorem Alike.of_stations {p q : Part} (h1 : q.port = p.port) (h2 : q.cmd = p.cmd) (h3 : q.tracker = p.tracker)
    (h4 : q.patterns = p.patterns) (h5 : q.books = p.books) (h6 : q.closer = p.closer) (h7 : q.timebase = p.timebase)
    (h8 : q.stations = p.stations) (h9 : q.sup = p.sup) : Alike p q where
  queue := by rw [h3]
  nextId := by rw [h3]
  pattern := pattern?_congr h4
  useCount := useCount_congr h4
  books := h5
  closerState := by rw [h6]
  current := by rw [h6]
  pocketA := by rw [h6]
  pocketB := by rw [h6]
  requests := by rw [h6]
  settings := by rw [h7]
  clock := by rw [h7]
  lock := by rw [h8]
  outOfService := by rw [h8]
  sending := by rw [h1]; exact Or.inl rfl
  halted := by rw [h9]; exact id
  running := by unfold Running; rw [h9]; exact id
  ports := PortsFit.congr (by rw [h1]) (by rw [h1]) (by rw [h1]) h2

theorem alike_onPunch (f : Punch → Punch) (p : Part) : Alike p (p.onPunch f) :=
  .of_stations rfl rfl rfl rfl rfl rfl rfl rfl rfl

theorem alike_onDrill (f : Drill → Drill) (p : Part) : Alike p (p.onDrill f) :=
  .of_stations rfl rfl rfl rfl rfl rfl rfl rfl rfl

/-- The tracker's own fields beside the queue. -/
theorem alike_onTracker {f : Tracker → Tracker} {p : Part} (hq : (f p.tracker).queue = p.tracker.queue)
    (hn : (f p.tracker).nextId = p.tracker.nextId) : Alike p (p.onTracker f) :=
  ⟨hq, hn, fun _ => rfl, fun _ => rfl, rfl, rfl, rfl, rfl, rfl, rfl, rfl, rfl, rfl, rfl, Or.inl rfl, id, id, id⟩

theorem alike_onCloser {f : Closer → Closer} {p : Part} (h : (f p.closer).state = p.closer.state ∧
    (f p.closer).current = p.closer.current ∧ (f p.closer).pocketA = p.closer.pocketA ∧
    (f p.closer).pocketB = p.closer.pocketB ∧ (f p.closer).requests = p.closer.requests) : Alike p (p.onCloser f) := by
  obtain ⟨hs, hc, ha, hb, hr⟩ := h
  exact ⟨rfl, rfl, fun _ => rfl, fun _ => rfl, rfl, hs, hc, ha, hb, hr, rfl, rfl, rfl, rfl, Or.inl rfl, id, id, id⟩

theorem alike_onStations {f : Stations → Stations} {p : Part} (hl : (f p.stations).lock = p.stations.lock)
    (ho : (f p.stations).outOfService = p.stations.outOfService) : Alike p (p.onStations f) :=
  ⟨rfl, rfl, fun _ => rfl, fun _ => rfl, rfl, rfl, rfl, rfl, rfl, rfl, rfl, rfl, hl, ho, Or.inl rfl, id, id, id⟩

/-- The supervisor's fields; the line stays, or goes from RUN to HOLD or back, or stops without a halt. -/
theorem alike_onSup {f : Supervisor → Supervisor} {p : Part} (hh : (f p.sup).line = .halt → p.sup.line = .halt)
    (hr : (f p.sup).line = .run ∨ (f p.sup).line = .hold → p.sup.line = .run ∨ p.sup.line = .hold) :
    Alike p (p.onSup f) :=
  ⟨rfl, rfl, fun _ => rfl, fun _ => rfl, rfl, rfl, rfl, rfl, rfl, rfl, rfl, rfl, rfl, rfl, Or.inl rfl, hh, hr, id⟩

theorem alike_onSup_line {f : Supervisor → Supervisor} {p : Part} (h : (f p.sup).line = p.sup.line) :
    Alike p (p.onSup f) := alike_onSup (by rw [h]; exact id) (by rw [h]; exact id)

theorem alike_onPort {f : Port → Port} {p : Part} (hs : (f p.port).sending = p.port.sending ∨ (f p.port).sending = none)
    (hp : p.PortsFit → (p.onPort f).PortsFit) : Alike p (p.onPort f) :=
  ⟨rfl, rfl, fun _ => rfl, fun _ => rfl, rfl, rfl, rfl, rfl, rfl, rfl, rfl, rfl, rfl, rfl, hs, id, id, hp⟩

theorem alike_onCmd {f : CommandUnit → CommandUnit} {p : Part} (hp : p.PortsFit → (p.onCmd f).PortsFit) :
    Alike p (p.onCmd f) :=
  ⟨rfl, rfl, fun _ => rfl, fun _ => rfl, rfl, rfl, rfl, rfl, rfl, rfl, rfl, rfl, rfl, rfl, Or.inl rfl, id, id, hp⟩

/-- A chain that may go on. -/
theorem Moves.thenIf {p q r : Part} {c : Prop} [Decidable c] (h : Moves p q) (h' : Moves q r) :
    Moves p (if c then r else q) := by
  split
  · exact h.trans h'
  · exact h

/-- A fold of chains is a chain. -/
theorem moves_foldl {α : Type} {f : Part → α → Part} (h : ∀ p a, Moves p (f p a)) (l : List α) (p : Part) :
    Moves p (l.foldl f p) := by
  induction l generalizing p with
  | nil => exact .refl
  | cons a l ih => exact (h p a).trans (ih _)

/-! ### The gate and what follows an event -/

theorem moves_dropTo {d : Dest} {p : Part} : Moves p (p.dropTo d) := by
  unfold dropTo
  dsimp only
  refine (Moves.single (.advance .atGate .dropping (fun e => { e with
      stage := .dropping, destination := some d, deadline := some ⟨.time, p.msDeadline p.timebase.settings.drop⟩ })
    (fun _ => ⟨rfl, rfl, rfl, rfl⟩) rfl (by simp) (by simp) (by simp))).trans ?_
  refine (Alike.moves (alike_onTracker (f := fun t => { t with gate := d }) rfl rfl)).trans ?_
  unfold withdrawWait
  refine (alike_onSup ?_ ?_).moves
  all_goals
    split
    · intro h
      dsimp only at h ⊢
      split at h <;> simp_all
    · exact id

theorem moves_gateDecide (p : Part) : Moves p p.gateDecide := by
  unfold gateDecide
  split
  · exact .refl
  · next e he =>
    have hmem : e ∈ p.tracker.queue := List.mem_of_find?_eq_some he
    have hstage : e.stage = .atGate := by simpa using List.find?_some he
    split
    · exact moves_dropTo
    · exact moves_dropTo
    · next b hv hb =>
      split
      · exact moves_dropTo
      · next hns =>
        split
        · exact (Moves.single (.spoil e.book .sheetFault false (by simp))).trans moves_dropTo
        · split
          · exact moves_dropTo
          · next k hp hk =>
            exact (Moves.single (.grant k e b hmem hstage (by simpa using hv) hb hns hp hk)).trans moves_dropTo
          · unfold raiseWait
            refine (alike_onSup ?_ ?_).moves
            all_goals
              intro h
              dsimp only at h ⊢
              split at h <;> simp_all

theorem moves_tryTake (p : Part) : Moves p p.tryTake := by
  unfold tryTake
  split
  · next k hk => exact .single (.take k hk)
  · exact .refl

theorem moves_follow (p : Part) : Moves p p.follow := by
  unfold follow
  split
  · exact (moves_gateDecide p).trans (moves_tryTake _)
  · exact moves_tryTake p

/-! ### Raising a cause -/

theorem onTimebase_id (p : Part) : p.onTimebase id = p := rfl

theorem moves_noteSecondary (c : Cause) (w : Option Nat) (p : Part) : Moves p (p.noteSecondary c w) := by
  unfold noteSecondary
  refine (alike_onSup_line ?_).moves
  split <;> rfl

/-- A cause raised in the event that changes the timebase in a way that stops the reference. -/
theorem moves_enterHalt {f : Timebase → Timebase} {p : Part} (c : Cause) (w : Option Nat)
    (hk : ClockKept p.timebase (f p.timebase)) (hl : p.sup.line ≠ .halt) : Moves p ((p.onTimebase f).enterHalt c w) := by
  unfold enterHalt
  exact (Moves.single (.stop f hk hl)).trans (alike_onSup_line rfl).moves

theorem moves_raise (c : Cause) (w : Option Nat) (p : Part) : Moves p (p.raise c w) := by
  by_cases h : p.sup.line = .halt
  · rw [raise_in_halt h]
    exact moves_noteSecondary c w p
  · rw [raise_outside_halt h]
    exact moves_enterHalt (f := id) c w (fun hu => ⟨rfl, hu⟩) h

/-! ### The punch -/

theorem moves_releasePunch (r : PunchResult) (w : Option SkipReason) (l : List Nat) (p : Part) :
    Moves p (p.releasePunch r w l) :=
  .single (.advance .atPunch .toDrill _ (fun _ => ⟨rfl, rfl, rfl, rfl⟩) rfl (by simp) (by simp) (by simp))

theorem moves_strikeSetup (p : Part) : Moves p p.strikeSetup := by
  unfold strikeSetup
  dsimp only
  split
  · exact .refl
  · repeat' split
    all_goals first
      | exact moves_releasePunch _ _ _ _
      | exact (alike_onPunch _ _).moves

theorem moves_handToPunch (p : Part) : Moves p p.handToPunch := by
  unfold handToPunch
  split
  · exact moves_strikeSetup p
  · exact (alike_onPunch _ _).moves

theorem moves_pendingPunch (p : Part) : Moves p p.pendingPunch := by
  unfold pendingPunch
  split
  · exact (alike_onPunch _ _).moves.trans (moves_strikeSetup _)
  · exact .refl

theorem moves_endEngagement (w : SkipReason) (l : List Nat) (p : Part) : Moves p (p.endEngagement w l) := by
  unfold endEngagement
  split
  · exact (moves_releasePunch _ _ _ _).trans (alike_onPunch _ _).moves
  · exact (alike_onPunch _ _).moves

theorem moves_punchLosesEffect (p : Part) : Moves p p.punchLosesEffect := by
  unfold punchLosesEffect
  split
  · exact moves_endEngagement _ _ _
  · exact .refl

theorem moves_markCoil (c : Nat) (v : PinHealth) (p : Part) : Moves p (p.markCoil c v) :=
  (Alike.of_stations (by simp) (by simp) (by simp) (by simp) (by simp) (by simp) (by simp) (by simp) (by simp)).moves

theorem moves_latchCheck (l : List (Nat × CoilFault)) (p : Part) : Moves p (p.latchCheck l) := by
  unfold latchCheck
  split
  · dsimp only
    split
    · exact (moves_foldl (fun q r => moves_markCoil _ _ q) _ p).trans (alike_onPunch _ _).moves
    · exact (moves_foldl (fun q r => moves_markCoil _ _ q) _ p).trans (moves_endEngagement _ _ _)
  · exact .refl

theorem moves_overCurrent (c : Nat) (p : Part) : Moves p (p.overCurrent c) := by
  unfold overCurrent
  dsimp only
  refine (moves_markCoil c .shortCoil p).trans ?_
  split
  · split
    · exact moves_endEngagement _ _ _
    · exact (alike_onPunch _ _).moves
    · exact (alike_onPunch _ _).moves
    · exact .refl
    · exact .refl
  · exact .refl

theorem moves_endRamCycle (p : Part) : Moves p p.endRamCycle := by
  unfold endRamCycle
  dsimp only
  refine Relation.ReflTransGen.trans ?_ ((alike_onPunch _ _).moves.trans (moves_pendingPunch _))
  split
  · exact moves_releasePunch _ _ _ _
  · exact .refl

theorem moves_enterReturn (p : Part) : Moves p p.enterReturn := by
  unfold enterReturn
  exact (alike_onPunch _ p).moves.thenIf (moves_endRamCycle _)

theorem moves_ramReachesBottom (p : Part) : Moves p p.ramReachesBottom := by
  unfold ramReachesBottom
  split
  · exact moves_enterReturn p
  · exact .refl

theorem moves_ramReachesTop (p : Part) : Moves p p.ramReachesTop := by
  unfold ramReachesTop
  exact (alike_onPunch _ p).moves.thenIf (moves_endRamCycle _)

theorem moves_punchGuardInIdle (p : Part) : Moves p p.punchGuardInIdle := by
  unfold punchGuardInIdle
  split
  · exact moves_endEngagement _ _ _
  · exact (alike_onPunch _ p).moves.trans (moves_enterReturn _)
  · exact .refl

/-! ### The drill -/

theorem moves_releaseDrill (r : DrillResult) (w : Option SkipReason) (l : List Idx4) (p : Part) :
    Moves p (p.releaseDrill r w l) :=
  .single (.advance .atDrill .toGate _ (fun _ => ⟨rfl, rfl, rfl, rfl⟩) rfl (by simp) (by simp) (by simp))

theorem moves_endDrillCycle (p : Part) : Moves p p.endDrillCycle := by
  unfold endDrillCycle
  split
  · dsimp only
    split
    · exact (moves_releaseDrill _ _ _ _).trans (alike_onDrill _ _).moves
    · exact (alike_onDrill _ _).moves
  · exact .refl

theorem moves_startCycle (l : List Idx4) (p : Part) : Moves p (p.startCycle l) := by
  rw [startCycle_eq, cycleStarted_frame]
  exact Relation.ReflTransGen.trans (alike_onDrill (fun _ => _) p).moves (moves_endDrillCycle _)

theorem moves_drillSetup (p : Part) : Moves p p.drillSetup := by
  unfold drillSetup
  split
  · exact .refl
  · repeat' split
    all_goals first
      | exact moves_releaseDrill _ _ _ _
      | exact moves_startCycle _ _

theorem moves_handToDrill (p : Part) : Moves p p.handToDrill := by
  unfold handToDrill
  split
  · exact (alike_onDrill _ _).moves
  · exact moves_drillSetup p

theorem moves_afterSpindle (p : Part) : Moves p p.afterSpindle := by
  unfold afterSpindle
  dsimp only
  refine (moves_endDrillCycle p).trans ?_
  split
  · exact (alike_onDrill _ _).moves.trans (moves_drillSetup _)
  · exact .refl

theorem moves_onSpindle (i : Idx4) (f : Spindle → Spindle) (p : Part) : Moves p (p.onSpindle i f) :=
  (alike_onDrill _ _).moves

theorem moves_spindleReachesBottom (i : Idx4) (p : Part) : Moves p (p.spindleReachesBottom i) := by
  unfold spindleReachesBottom
  exact (moves_onSpindle i _ p).thenIf ((moves_onSpindle i _ _).trans (moves_afterSpindle _))

theorem moves_spindleReachesTop (i : Idx4) (p : Part) : Moves p (p.spindleReachesTop i) := by
  unfold spindleReachesTop
  exact (moves_onSpindle i _ p).thenIf ((moves_onSpindle i _ _).trans (moves_afterSpindle _))

theorem moves_addFaulted (i : Idx4) (p : Part) : Moves p (p.addFaulted i) := (alike_onDrill _ _).moves

theorem moves_drillGuardInIdle (p : Part) : Moves p p.drillGuardInIdle := by
  unfold drillGuardInIdle
  dsimp only
  split
  · exact .refl
  · exact (moves_foldl (fun q i => (moves_addFaulted i q).trans (moves_onSpindle i _ _)) _ p).trans
      (moves_afterSpindle _)

theorem moves_spindleSticks (i : Idx4) (p : Part) : Moves p (p.spindleSticks i) :=
  (moves_onSpindle i _ p).trans ((alike_onDrill _ _).moves.trans ((moves_raise _ _ _).trans (moves_afterSpindle _)))

end Part

end Sys2Proof.Machine
end

section
/-! SUPPORT. The chains of moves of the closer's events, the sheet sensors, the supervisor's inputs and the timebase. -/

namespace Sys2Proof.Machine.Part

/-! ### The closer -/

theorem moves_clampDone (p : Part) : Moves p p.clampDone := by
  unfold clampDone
  split
  · next h =>
    have hb : bindState p.closer.state = true := by rw [h]; rfl
    split
    · dsimp only
      exact (Moves.single (.closerStep .hanger _ hb rfl)).thenIf (.single (.fail .hangerEmpty rfl))
    · exact .single (.closerStep .feed _ hb rfl)
  · exact .refl

theorem moves_hangerIn (p : Part) : Moves p p.hangerIn := by
  unfold hangerIn
  split
  · next h => exact .single (.closerStep .feed _ (by rw [h]; rfl) rfl)
  · exact .refl

theorem moves_hangerRunsEmpty (p : Part) : Moves p p.hangerRunsEmpty := by
  have hlevel : Moves p (p.onCloser fun c => { c with hangerEmpty := true }) :=
    (alike_onCloser ⟨rfl, rfl, rfl, rfl, rfl⟩).moves
  unfold hangerRunsEmpty
  dsimp only
  split
  · next h => exact hlevel.trans (.single (.fail .hangerEmpty (by
      have hs : p.closer.state = .hanger := h
      simp only [cycleRunning, onCloser_fields, hs]
      rfl)))
  · exact hlevel

theorem moves_loopPulse (p : Part) : Moves p p.loopPulse := by
  unfold loopPulse
  split
  · next h =>
    have hb : bindState p.closer.state = true := by rw [h]; rfl
    split
    · exact .refl
    · next a _ =>
      have hcount : Moves p (p.onCloser fun c => { c with active := some { a with value := a.value - 1 } }) :=
        (alike_onCloser ⟨rfl, rfl, rfl, rfl, rfl⟩).moves
      dsimp only
      split
      · exact hcount.trans (.single (.closerStep .cut _ hb rfl))
      · exact hcount.trans (.single (.closerStep .feed _ hb rfl))
  · exact .refl

theorem moves_cutDone (p : Part) : Moves p p.cutDone := by
  unfold cutDone
  split
  · next h =>
    have hb : bindState p.closer.state = true := by rw [h]; rfl
    dsimp only
    refine (alike_onCloser ?_).moves.trans (.single (.closerStep .close _ ?_ rfl))
    · split <;> exact ⟨rfl, rfl, rfl, rfl, rfl⟩
    · simp only [onCloser_fields]
      split <;> exact hb
  · exact .refl

theorem moves_closeDone (p : Part) : Moves p p.closeDone := by
  unfold closeDone
  split
  · next h => exact .single (.closerStep .eject _ (by rw [h]; rfl) rfl)
  · exact .refl

theorem moves_ejectDone (p : Part) : Moves p p.ejectDone := by
  unfold ejectDone
  split
  · next h => exact (Moves.single (.eject h)).trans (moves_follow _)
  · exact .refl

theorem moves_dumpDone (p : Part) : Moves p p.dumpDone := by
  unfold dumpDone
  split
  · next h => exact (Moves.single (.dump h)).trans (moves_follow _)
  · exact .refl

/-! ### The sheet sensors -/

theorem moves_bindEntry (double : Bool) (p : Part) (h : p.sup.line = .run) : Moves p (p.bindEntry double) := by
  unfold bindEntry
  split
  · exact moves_raise _ _ p
  · have hmove : Moves p (p.modifyOldest .waiting fun e =>
        { e with stage := .entered, deadline := some ⟨.position, p.posDeadline p.timebase.settings.leadIn⟩ }) := by
      refine .single (.advance .waiting .entered _ ?_ rfl (by simp) (by simp [h]) (by simp))
      exact fun _ => ⟨rfl, rfl, rfl, rfl⟩
    exact hmove.thenIf (moves_raise _ _ _)

theorem moves_bindStation (s : Sensor) (a b : Stage) {hand : Part → Part} (h : ∀ p, Moves p (hand p))
    (hab : b.code = a.code + 1) (hb : b ≠ .done) (ha : a ≠ .waiting) (p : Part) :
    Moves p (p.bindStation s a b hand) := by
  unfold bindStation
  split
  · exact moves_raise _ _ p
  · next hn =>
    have hmove : Moves p (p.modifyOldest a fun e => { e with stage := b, deadline := none }) := by
      refine .single (.advance a b _ ?_ hab hb (fun e => absurd e ha) fun _ => by simp_all)
      exact fun _ => ⟨rfl, rfl, rfl, rfl⟩
    exact hmove.trans (h _)

theorem moves_senseMoving (s : Sensor) {bind : Part → Part} (p : Part) (h : p.sup.line = .run → Moves p (bind p)) :
    Moves p (p.senseMoving s bind) := by
  unfold senseMoving
  split
  · next hl => exact h hl
  · exact moves_raise _ _ p
  · exact moves_raise _ _ p
  · exact .refl

theorem moves_sheetLands (l : LandingSensor) (p : Part) : Moves p (p.sheetLands l) := by
  unfold sheetLands
  split
  · exact .refl
  · split
    · exact moves_raise _ _ p
    · next e he =>
      split
      · exact (Moves.single (.land l e he)).trans (moves_follow _)
      · exact moves_raise _ _ p

theorem moves_exitSensor (p : Part) : Moves p p.exitSensor :=
  moves_senseMoving .exit p fun _ => moves_bindStation _ _ _
    (fun q => (moves_gateDecide q).trans (moves_follow _)) rfl (by simp) (by simp) p

/-! ### The supervisor's inputs -/

theorem moves_guardInIdle (s : Station) (p : Part) : Moves p (p.guardInIdle s) := by
  cases s with
  | punch => exact moves_punchGuardInIdle p
  | drill => exact moves_drillGuardInIdle p
  | closer =>
    simp only [guardInIdle, closerGuardInIdle]
    split
    · next h => exact .single (.fail .guard h)
    · exact .refl

theorem moves_openGuardOf (s : Station) (p : Part) : Moves p (p.openGuardOf s) := by
  have hlevel : Moves p (p.onStations fun x => { x with guardsOpen := x.guardsOpen.set true s }) :=
    (alike_onStations rfl rfl).moves
  unfold openGuardOf
  dsimp only
  split
  · exact .refl
  · split
    · exact hlevel.thenIf (moves_raise _ _ _)
    · exact hlevel.thenIf (moves_raise _ _ _)
    · exact hlevel.trans (moves_guardInIdle _ _)
    · exact hlevel

theorem moves_closeGuardOf (s : Station) (p : Part) : Moves p (p.closeGuardOf s) :=
  (Alike.moves (alike_onStations rfl rfl)).trans (moves_follow _)

theorem moves_supplyFalls (p : Part) : Moves p p.supplyFalls := by
  unfold supplyFalls
  dsimp only
  have hlevel : Moves p (p.onSup fun u => { u with supplyLow := true }) := (alike_onSup_line rfl).moves
  repeat' split
  · exact .refl
  · exact hlevel
  · exact hlevel.trans (moves_raise _ _ _)

theorem moves_driverShuts (p : Part) : Moves p p.driverShuts := by
  unfold driverShuts
  dsimp only
  have hlevel : Moves p (p.onSup fun u => { u with driverShutdown := true }) := (alike_onSup_line rfl).moves
  repeat' split
  · exact .refl
  · exact hlevel
  · exact hlevel.trans (moves_raise _ _ _)

theorem moves_stopPressed (p : Part) : Moves p p.stopPressed := by
  unfold stopPressed
  split
  · exact .refl
  · exact (Alike.moves (alike_onSup_line rfl)).trans (moves_raise _ _ _)

/-! ### The timebase -/

theorem moves_goodTick (p : Part) : Moves p p.goodTick := by
  unfold goodTick
  refine .single (.clock _ (fun hu => ?_) fun _ hv => ?_)
  · split
    · exact ⟨rfl, hu⟩
    · exact ⟨rfl, hu⟩
    all_goals
      refine ⟨rfl, ?_⟩
      dsimp only
      split <;> simp_all
  · split <;> simp_all

theorem moves_badTick (p : Part) : Moves p p.badTick := by
  unfold badTick
  split
  · exact .refl
  · exact .single (.clock _ (fun hu => ⟨rfl, hu⟩) fun _ hv => hv)
  · exact .single (.clock _ (fun hu => ⟨rfl, hu⟩) fun _ hv => hv)
  · next hv =>
    have hkept : ClockKept p.timebase { p.timebase with runCount := 0, state := .lost } := fun _ => ⟨rfl, by simp⟩
    have hlost : p.sup.line ≠ .run → p.sup.line ≠ .hold →
        Moves p (p.onTimebase fun t => { t with runCount := 0, state := .lost }) := fun hr hh =>
      .single (.clock _ hkept fun hrun => by unfold Running at hrun; simp_all)
    dsimp only
    split
    · next hi => exact hlost (by simp [hi]) (by simp [hi])
    · by_cases hh : p.sup.line = .halt
      · exact (hlost (by simp [hh]) (by simp [hh])).trans (moves_raise _ _ _)
      · rw [raise_outside_halt (by simpa using hh)]
        exact moves_enterHalt _ _ hkept hh

theorem moves_encoderEdge (x : Transition) (p : Part) : Moves p (p.encoderEdge x) := by
  unfold encoderEdge
  split
  · exact .single (.clock _ (fun hu => ⟨rfl, hu⟩) fun _ hv => hv)
  · exact .refl

/-! ### The link in and out -/

theorem slots_lt {p : Part} (h : 1 ≤ p.outFree) : p.slotsUsed < 8 := by
  unfold outFree Config.outSlots at h
  omega

theorem alike_startSymbol (p : Part) : Alike p p.startSymbol := by
  unfold startSymbol
  refine alike_onPort ?_ fun ⟨ha, hs, hc, hr⟩ => ⟨?_, ?_, hc, hr⟩
  · dsimp only; split <;> exact Or.inl rfl
  · simp only [placesOccupied, onPort_fields, Config.rxPlaces] at ha ⊢
    by_cases hfull : 4 ≤ p.port.rxBuf.length
    · simp only [hfull, if_true]; split at ha <;> omega
    · simp only [hfull, if_false]; omega
  · simp only [slotsUsed, onPort_fields] at hs ⊢
    by_cases hfull : Config.rxPlaces ≤ p.port.rxBuf.length
    · simpa only [hfull, if_true] using hs
    · simpa only [hfull, if_false] using hs

theorem alike_discard (p : Part) : Alike p p.discard :=
  alike_onPort (Or.inl rfl) fun ⟨ha, hs, hc, hr⟩ =>
    ⟨by simp only [placesOccupied, onPort_fields] at ha ⊢; split at ha <;> omega, hs, hc, hr⟩

theorem alike_endTicket {bytes rx : List Byte} {p : Part} (h : p.port.rx = .inside rx) : Alike p (p.endTicket bytes) := by
  unfold endTicket
  split
  · refine alike_onPort (Or.inl rfl) fun ⟨ha, hs, hc, hr⟩ => ⟨?_, hs, hc, hr⟩
    simpa [placesOccupied, h] using ha
  · exact alike_discard p

theorem moves_ticketArrives (bytes : List Byte) (close : TicketClose) (p : Part) :
    Moves p (p.ticketArrives bytes close) := by
  unfold ticketArrives
  extract_lets q
  have hfirst : Moves p q := by
    dsimp only [q]
    split
    · exact .refl
    · exact .refl
    · exact (alike_startSymbol p).moves
    · exact (alike_startSymbol p).moves
  clear_value q
  split
  · next h => exact hfirst.trans (alike_endTicket h).moves
  · exact hfirst.trans (alike_discard _).moves

theorem moves_linkError (p : Part) : Moves p (p.onPort fun x => { x with linkError := true }) :=
  (alike_onPort (Or.inl rfl) (PortsFit.congr rfl rfl rfl rfl)).moves

theorem moves_symbolArrives (y : StraySymbol) (p : Part) : Moves p (p.symbolArrives y) := by
  unfold symbolArrives
  split
  · next h => exact (alike_endTicket h).moves
  · next h =>
    split
    · exact (alike_discard p).moves
    · refine (alike_onPort (Or.inl rfl) fun ⟨ha, hs, hc, hr⟩ => ⟨?_, hs, hc, hr⟩).moves
      simpa [placesOccupied, h] using ha
  · exact (alike_discard p).moves
  · exact moves_linkError p
  · exact (alike_discard p).moves
  · exact moves_linkError p

theorem moves_beginTransmit (p : Part) : Moves p p.beginTransmit := by
  unfold beginTransmit
  split
  · split
    · exact .refl
    · next x hx =>
      dsimp only
      have hhead : ∀ t, p.headReport = some t → p.tracker.queue.head?.any (fun e => e.stage == .done) = true := by
        intro t ht
        unfold headReport at ht
        split at ht
        · next hq => split at ht <;> simp_all
        · cases ht
      have hnone : p.headReport = none → ∀ e ∈ p.tracker.queue.head?, e.stage ≠ .done := by
        intro ht e he
        unfold headReport at ht
        split at ht
        · next hq => split at ht <;> simp_all
        · simp_all
      have hsend : Moves p (p.onPort fun y => { y with sending := some x }) := by
        refine .single (.send x (fun ho => ?_) fun ho => ?_)
        · unfold arbiter at hx
          split at hx <;> simp only [Option.some.injEq, reduceCtorEq] at hx <;> subst hx <;> simp at ho
          next t _ ht => exact hhead t ht
        · unfold arbiter at hx
          split at hx <;> simp only [Option.some.injEq, reduceCtorEq] at hx <;> subst hx <;> simp at ho
          next t _ ht hn =>
            refine ⟨hnone ht, ?_⟩
            unfold nextNotice at hn
            rw [Option.map_eq_some_iff] at hn
            obtain ⟨b, hb, -⟩ := hn
            rw [Option.bind_eq_some_iff] at hb
            obtain ⟨i, hi, hb⟩ := hb
            exact ⟨i, b, hi, hb⟩
      exact hsend.thenIf (alike_onSup_line rfl).moves
  · exact .refl

theorem moves_ticketLeaves (p : Part) : Moves p p.ticketLeaves := by
  unfold ticketLeaves
  split
  · exact .refl
  · next x hx =>
    dsimp only
    have hidle : Moves p (p.onPort fun y => { y with sending := none }) :=
      (alike_onPort (Or.inr rfl) (PortsFit.congr rfl rfl rfl rfl)).moves
    split
    · exact hidle
    · next ho => exact .single (.freeHead x hx ho)
    · next ho => exact .single (.freeRecord x hx ho)
    · refine hidle.trans (alike_onPort (Or.inl rfl) fun ⟨ha, hs, hc, hr⟩ => ⟨ha, ?_, hc, hr⟩).moves
      simp only [slotsUsed, onPort_fields, List.length_tail] at hs ⊢
      omega

end Sys2Proof.Machine.Part
end

section
/-! SUPPORT. The chains of moves of admission, classification, the requests and RESET; and what a step of the machine
can do, in moves. -/

namespace Sys2Proof.Machine

namespace Part

/-! ### Admission -/

theorem moves_pushVoid (t : Ticket) (f : SheetFields) (r : VoidReason) {p q : Part} (h : Moves p q)
    (hq : q.tracker = p.tracker) (hl : p.tracker.queue.length < 24) : Moves p (q.pushEntry t f (some r)) :=
  h.tail (.push t f r (by rw [hq]; exact hl))

theorem moves_cutShort (n : Nat) (p : Part) : Moves p (p.cutShort n) ∧ (p.cutShort n).tracker = p.tracker := by
  unfold cutShort
  split
  · exact ⟨.refl, rfl⟩
  · split
    · exact ⟨.refl, rfl⟩
    · split
      · exact ⟨.single (.spoil _ .shortBook true (by simp)), by simp⟩
      · exact ⟨.refl, rfl⟩

/-- A ticket whose fields pass their checks and that carries a header carries counts in range (R6). -/
theorem fieldCheck_header {f : SheetFields} {h : BookHeader} (hf : fieldCheck f = none) (hh : f.header = some h) :
    2 ≤ h.expected ∧ h.expected ≤ 60 := by
  unfold fieldCheck at hf
  simp only [hh] at hf
  split at hf
  · cases hf
  · next hr => simp only [inRange] at hr; simp at hr; omega

/-- The book checks: the part they leave is reached by moves, and their answer says what the next move needs. -/
theorem judgeBook_spec {f : SheetFields} {p q : Part} {a : BookAnswer} (h : p.judgeBook f = (q, a)) :
    Moves p q ∧ q.tracker = p.tracker ∧
    (a = .continues → ∃ b, q.book? f.book = some b ∧ b.admitted < b.expected) ∧
    (∀ x, a = .opens x → f.header = some x ∧ q.book? f.book = none ∧ q.books.records.length < 12) := by
  have hspoil : Moves p (p.spoil f.book .voidLeaf true) := .single (.spoil _ .voidLeaf true (by simp))
  unfold judgeBook at h
  split at h
  · next b hb =>
    have hfound : p.book? f.book = some b := by
      unfold tailRecord at hb
      split at hb
      · exact hb
      · cases hb
    unfold judgeTail at h
    split at h
    · next hn =>
      split at h <;> cases h
      · exact ⟨.refl, rfl, fun _ => ⟨b, hfound, hn.1⟩, by simp⟩
      · exact ⟨hspoil, by simp, by simp, by simp⟩
    · cases h
      exact ⟨hspoil, by simp, by simp, by simp⟩
  · next x _ hx =>
    cases h
    refine ⟨.refl, rfl, fun ha => ?_, fun y ha => ?_⟩
    · unfold judgeOpening at ha
      repeat' split at ha
      all_goals simp at ha
    · unfold judgeOpening at ha
      repeat' split at ha
      all_goals simp at ha
      next hb hr _ _ =>
      subst ha
      exact ⟨hx, by simpa using hb, by simpa [Config.bookRecords] using hr⟩
  · cases h
    exact ⟨.refl, rfl, by simp, by simp⟩

theorem moves_admitFields (t : Ticket) (f : SheetFields) (p : Part) (hl : p.tracker.queue.length < 24) :
    Moves p (p.admitFields t f) := by
  unfold admitFields
  split
  · exact moves_pushVoid t f _ .refl rfl hl
  · next hf =>
    obtain ⟨hcut, htcut⟩ := moves_cutShort f.book p
    split
    all_goals
      rename_i hj
      obtain ⟨hm, ht, hc, ho⟩ := judgeBook_spec hj
      have hq := ht.trans htcut
    · exact moves_pushVoid t f _ (hcut.trans hm) hq hl
    · obtain ⟨b, hb, ha⟩ := hc rfl
      exact (hcut.trans hm).tail (.continues t f b (by rw [hq]; exact hl) hb ha)
    · obtain ⟨hx, hb, hr⟩ := ho _ rfl
      obtain ⟨h2, h60⟩ := fieldCheck_header hf hx
      exact (hcut.trans hm).tail (.opens t f _ (by rw [hq]; exact hl) hb hr h2 h60)

theorem alike_popRx (p : Part) : Alike p p.popRx :=
  alike_onPort (Or.inl rfl) fun ⟨ha, hs, hc, hr⟩ =>
    ⟨by simp only [placesOccupied, onPort_fields, List.length_tail] at ha ⊢; omega, hs, hc, hr⟩

theorem alike_setExpected (x : Option Half) (p : Part) : Alike p (p.setExpected x) := alike_onTracker rfl rfl

theorem moves_admitTicket (t : Ticket) (p : Part) (hl : p.tracker.queue.length < 24) :
    Moves p (p.popRx.admitTicket t) := by
  unfold admitTicket
  refine Relation.ReflTransGen.trans ?_ (moves_follow _)
  exact (alike_popRx p).moves.trans ((alike_setExpected _ _).moves.trans (moves_admitFields t _ _ hl))

theorem alike_placeTurned (t : Ticket) {p : Part} (h : p.slotsUsed < 8) : Alike p (p.placeTurned t) :=
  alike_onPort (Or.inl rfl) fun ⟨ha, _, hc, hr⟩ =>
    ⟨ha, by simp only [slotsUsed, onPort_fields, List.length_append, List.length_singleton] at h ⊢; omega, hc, hr⟩

theorem moves_turnHead (t : Ticket) (x : Half) {p : Part} (hb : p.port.rxBuf ≠ []) : Moves p (p.turnHead t x) := by
  unfold turnHead
  have hraised : Moves p ((p.raise (.sequenceGap x (sheetFields t.body).sequence) none).setExpected none) :=
    (moves_raise _ _ p).trans (alike_setExpected none _).moves
  refine hraised.trans ?_
  dsimp only
  split
  · next h => exact (alike_popRx _).moves.trans (alike_placeTurned _ (slots_lt (p := popRx _) h)).moves
  · refine (alike_onPort (Or.inl rfl) fun ⟨ha, hs, hc, hr⟩ => ⟨?_, hs, hc, hr⟩).moves
    have hpos : 0 < p.port.rxBuf.length := List.length_pos_of_ne_nil hb
    simp only [placesOccupied, setExpected, onPort_fields, onTracker_fields, raise_frame, List.length_cons,
      List.length_tail] at ha ⊢
    omega

/-! ### Classification -/

theorem classable_spec {p : Part} {c : TicketClass} (h : p.classable = some c) :
    ∃ it rest, p.port.rxBuf = it :: rest ∧ p.classOf it = c ∧ p.hasSpace c = true := by
  unfold classable at h
  split at h
  · next it rest hb =>
    split at h
    · next hs => cases h; exact ⟨it, rest, hb, rfl, hs⟩
    · cases h
  · cases h

theorem slots_lt_popRx {p : Part} (h : 1 ≤ p.outFree) : p.popRx.slotsUsed < 8 := slots_lt h

theorem moves_admitHead {p : Part} (h : p.isDue .admitSheet = true) : Moves p p.admitHead := by
  obtain ⟨it, rest, hb, -, hs⟩ := classable_spec (by simpa [isDue] using h)
  have hl : p.tracker.queue.length < 24 := of_decide_eq_true hs
  unfold admitHead
  simp only [hb]
  split
  · exact moves_admitTicket _ p hl
  · split
    · exact moves_admitTicket _ p hl
    · exact moves_turnHead _ _ (by simp [hb])

theorem markEntry_port (m : Option Nat) (p : Part) :
    (p.markEntry m).port = p.port ∧ (p.markEntry m).cmd = p.cmd := by
  unfold markEntry
  split <;> exact ⟨rfl, rfl⟩

theorem moves_placeOut (t : Ticket) {p : Part} (h : p.slotsUsed < 8) : Moves p (p.placeOut t) := by
  obtain ⟨hp, hc⟩ := markEntry_port (p.markOf t) p
  unfold placeOut
  refine (Moves.single (.mark _)).tail (.alike (alike_onPort (Or.inl rfl) fun ⟨ha, _, hl, hr⟩ => ⟨ha, ?_, hl, hr⟩))
  simp only [slotsUsed, onPort_fields, List.length_append, List.length_singleton, hp, hc] at h ⊢
  omega

theorem moves_placeCommand (t : Ticket) {p : Part} (h : p.cmd.list.length < 4) : Moves p (p.placeCommand t) := by
  obtain ⟨hp, hc⟩ := markEntry_port (p.markOf t) p
  unfold placeCommand
  refine (Moves.single (.mark _)).tail (.alike (alike_onCmd fun ⟨ha, hs, _, hr⟩ => ⟨ha, hs, ?_, fun r hr' => ?_⟩))
  · simp only [onCmd_fields, hc, List.length_append, List.length_singleton]
    omega
  · obtain ⟨it, hit, hres⟩ := hr r hr'
    refine ⟨it, ?_, hres⟩
    simp only [onCmd_fields, List.head?_append]
    simp only [Option.mem_def] at hit
    simp [hit]

theorem placeCommand_slots (t : Ticket) (p : Part) : (p.placeCommand t).slotsUsed = p.slotsUsed := by
  obtain ⟨hp, hc⟩ := markEntry_port (p.markOf t) p
  simp only [slotsUsed, placeCommand, onCmd_fields, hp, hc]

theorem moves_classifyHead {p : Part} (h : p.isDue .classify = true) : Moves p p.classifyHead := by
  have hdue : ∃ c, p.classable = some c := by
    cases hc : p.classable with
    | none => simp [isDue, hc] at h
    | some c => exact ⟨c, rfl⟩
  obtain ⟨c, hc⟩ := hdue
  obtain ⟨it, rest, hb, hclass, hs⟩ := classable_spec hc
  have hpop : Moves p p.popRx := (alike_popRx p).moves
  unfold classifyHead
  simp only [hb, hclass]
  cases c with
  | turned =>
    exact hpop.trans (alike_placeTurned _ (slots_lt_popRx (of_decide_eq_true hs))).moves
  | passThrough => exact hpop.trans (moves_placeOut _ (slots_lt_popRx (of_decide_eq_true hs)))
  | request => exact hpop.trans (moves_placeCommand (p := p.popRx) _ (of_decide_eq_true hs))
  | broadcast =>
    obtain ⟨hlist, hfree⟩ := Bool.and_eq_true_iff.1 hs
    refine hpop.trans ((moves_placeCommand (p := p.popRx) _ (of_decide_eq_true hlist)).trans (moves_placeOut _ ?_))
    rw [placeCommand_slots]
    exact slots_lt_popRx (of_decide_eq_true hfree)
  | sheet => exact .refl

/-! ### The requests -/

theorem moves_answerRun (t : Ticket) (p : Part) : Moves p (p.answerRun t).part := by
  unfold answerRun
  split
  · split
    · exact .refl
    · exact .refl
    · exact .refl
    · split
      · exact .refl
      · next hc =>
        have hv : p.timebase.state = .valid := by
          by_contra hv
          simp [runCondition, timebaseCondition, hv, firstOf] at hc
        unfold enterRun
        dsimp only
        refine (Moves.single (.run hv)).trans ?_
        split
        · exact (moves_gateDecide _).trans (moves_tryTake _)
        · exact moves_tryTake _
  · exact .refl

theorem moves_stopLine {p : Part} : Moves p (p.onSup fun u => { u with line := .idle }) :=
  (alike_onSup (by simp) (by simp)).moves

theorem moves_answerStop (t : Ticket) (p : Part) : Moves p (p.answerStop t).part := by
  unfold answerStop
  repeat' split
  all_goals dsimp only [refuse]
  all_goals first
    | exact .refl
    | exact moves_stopLine

theorem moves_answerHalt (t : Ticket) (p : Part) : Moves p (p.answerHalt t).part := by
  unfold answerHalt
  split
  · exact moves_raise _ _ p
  · exact .refl

theorem moves_flushWaiting {p : Part} (h : p.sup.line = .halt) : Moves p p.flushWaiting :=
  (Moves.single (.flush h)).trans (moves_foldl (fun _ _ => .single (.spoil _ .flushed true (by simp))) _ _)

theorem moves_answerResume (t : Ticket) (p : Part) : Moves p (p.answerResume t).part := by
  unfold answerResume
  split
  · split
    · exact .refl
    · next h =>
      repeat' split
      all_goals first
        | exact .refl
        | exact moves_stopLine
        | exact (moves_flushWaiting (by simpa using h)).trans moves_stopLine
  · exact .refl

theorem moves_answerClearFaults (t : Ticket) (p : Part) : Moves p (p.answerClearFaults t).part := by
  unfold answerClearFaults
  split
  · refine Relation.ReflTransGen.trans ?_ (moves_follow p.clearPunch.clearDrill.clearCloser.clearFlags)
    refine (Alike.moves (q := p.clearPunch.clearDrill) (.of_stations (by simp) (by simp) (by simp) (by simp) (by simp)
      (by simp) (by simp) (by simp) (by simp))).trans ?_
    unfold clearFlags
    refine (Moves.single .clear).trans (Relation.ReflTransGen.trans ?_
      (alike_onPort (Or.inl rfl) (PortsFit.congr rfl rfl rfl rfl)).moves)
    exact (alike_onSup_line rfl).moves
  · exact .refl

theorem LoadFields.pattern?_number {f : LoadFields} {d : PatternDef} (h : f.pattern? = some d) : f.number ≠ 0 := by
  unfold LoadFields.pattern? at h
  split at h
  · split at h
    · next hr => simp [inRange] at hr; omega
    · cases h
  · cases h

theorem moves_answerLoadPattern (t : Ticket) (p : Part) : Moves p (p.answerLoadPattern t).part := by
  unfold answerLoadPattern
  split
  · exact .refl
  · split
    · exact .refl
    · next hd =>
      split
      · exact .refl
      · exact .single (.pattern _ _ (LoadFields.pattern?_number hd))

theorem moves_answerClearPattern (t : Ticket) (p : Part) : Moves p (p.answerClearPattern t).part := by
  unfold answerClearPattern
  split
  · dsimp only
    split
    · exact .refl
    · next hr =>
      split
      · exact .refl
      · exact .single (.pattern _ _ (by simp [inRange] at hr; omega))
  · exact .refl

theorem moves_answerSetPunch (t : Ticket) (p : Part) : Moves p (p.answerSetPunch t).part := by
  unfold answerSetPunch
  repeat' split
  all_goals dsimp only [refuse]
  all_goals first
    | exact .refl
    | exact (alike_onPunch _ p).moves

theorem moves_answerSetProfile (t : Ticket) (p : Part) : Moves p (p.answerSetProfile t).part := by
  unfold answerSetProfile
  dsimp only
  repeat' split
  all_goals dsimp only [refuse]
  all_goals first
    | exact .refl
    | exact (alike_onDrill _ p).moves

theorem moves_answerMapSpindles (t : Ticket) (p : Part) : Moves p (p.answerMapSpindles t).part := by
  unfold answerMapSpindles
  repeat' split
  all_goals dsimp only [refuse]
  all_goals first
    | exact .refl
    | exact (alike_onDrill _ p).moves

theorem moves_answerSetCloser (t : Ticket) (p : Part) : Moves p (p.answerSetCloser t).part := by
  have hset : ∀ cls w, Moves p (p.onCloser fun x => { x with wireClass := cls, windows := w }) :=
    fun _ _ => (alike_onCloser ⟨rfl, rfl, rfl, rfl, rfl⟩).moves
  unfold answerSetCloser
  dsimp only
  repeat' split
  all_goals dsimp only [refuse]
  all_goals first
    | exact .refl
    | exact hset _ _

theorem moves_answerSetTimebase (t : Ticket) (p : Part) : Moves p (p.answerSetTimebase t).part := by
  unfold answerSetTimebase
  split
  · exact .refl
  · split
    · exact .refl
    · next hu =>
      split
      · exact .refl
      · dsimp only
        exact .single (.clock _ (fun h => absurd h hu) fun _ hv => hv)

theorem moves_answerStartTimebase (t : Ticket) (p : Part) : Moves p (p.answerStartTimebase t).part := by
  unfold answerStartTimebase
  split
  · dsimp only
    unfold startTimebase
    split
    · next hu => exact .single (.clock _ (fun h => absurd hu h) fun _ hv => by simp_all)
    · exact .refl
  · exact .refl

theorem moves_stationsChanged (p : Part) : Moves p p.stationsChanged :=
  (moves_punchLosesEffect p).trans (moves_follow _)

theorem moves_answerStations (t : Ticket) (p : Part) : Moves p (p.answerStations t).part := by
  have hset : ∀ x, Moves p (p.onStations fun s => { s with activation := x }) :=
    fun _ => (alike_onStations rfl rfl).moves
  unfold answerStations
  repeat' split
  all_goals dsimp only [refuse]
  all_goals first
    | exact .refl
    | exact (hset _).trans (moves_stationsChanged _)

theorem moves_answerService (t : Ticket) (p : Part) : Moves p (p.answerService t).part := by
  unfold answerService
  split
  · split
    · exact .refl
    · next hl =>
      split
      · next x l _ _ =>
        exact (Moves.single (.service (fun s => { s with outOfService := x, lock := l })
          fun h => absurd h hl)).trans (moves_stationsChanged _)
      · exact .refl
  · exact .refl

theorem moves_answerSetLine (t : Ticket) (p : Part) : Moves p (p.answerSetLine t).part := by
  unfold answerSetLine
  repeat' split
  all_goals dsimp only [refuse]
  all_goals first
    | exact .refl
    | exact (alike_onSup_line rfl).moves

theorem moves_answerAmendBook (t : Ticket) (p : Part) : Moves p (p.answerAmendBook t).part := by
  unfold answerAmendBook
  dsimp only
  repeat' split
  all_goals dsimp only [refuse]
  all_goals first
    | exact .refl
    | exact .single (.amend _ _)

theorem moves_answerCancelBook (t : Ticket) (p : Part) : Moves p (p.answerCancelBook t).part := by
  unfold answerCancelBook
  dsimp only
  repeat' split
  all_goals dsimp only [refuse]
  all_goals first
    | exact .refl
    | exact (Moves.single (.spoil _ .cancelled true (by simp))).trans (moves_follow _)

/-- The reads change nothing. -/
theorem answerRead_part (t : Ticket) (p : Part) :
    (p.answerReadStatus t).part = p ∧ (p.answerReadQueue t).part = p ∧ (p.answerReadBook t).part = p ∧
    (p.answerReadPattern t).part = p ∧ (p.answerReadDrill t).part = p ∧ (p.answerReadCloser t).part = p ∧
    (p.answerReadHalt t).part = p := by
  refine ⟨?_, ?_, ?_, ?_, ?_, ?_, ?_⟩
  · unfold answerReadStatus; split <;> rfl
  · unfold answerReadQueue; split <;> (try split) <;> rfl
  · unfold answerReadBook; split <;> (try split) <;> rfl
  · unfold answerReadPattern; split <;> (try split) <;> rfl
  · unfold answerReadDrill; split <;> rfl
  · unfold answerReadCloser; split <;> rfl
  · unfold answerReadHalt; split <;> rfl

theorem moves_of_eq {p q : Part} (h : q = p) : Moves p q := h ▸ .refl

theorem moves_answer (t : Ticket) (p : Part) : Moves p (p.answer t).part := by
  obtain ⟨h1, h2, h3, h4, h5, h6, h7⟩ := answerRead_part t p
  unfold answer
  split
  · exact moves_of_eq h1
  · exact moves_of_eq h2
  · exact moves_of_eq h3
  · exact moves_of_eq h4
  · exact moves_of_eq h5
  · exact moves_of_eq h6
  · exact moves_of_eq h7
  · exact moves_answerRun t p
  · exact moves_answerStop t p
  · exact moves_answerHalt t p
  · exact moves_answerResume t p
  · exact moves_answerClearFaults t p
  · exact .refl
  · exact moves_answerLoadPattern t p
  · exact moves_answerClearPattern t p
  · exact moves_answerSetPunch t p
  · exact moves_answerSetProfile t p
  · exact moves_answerMapSpindles t p
  · exact moves_answerSetCloser t p
  · exact moves_answerSetTimebase t p
  · exact moves_answerStartTimebase t p
  · exact moves_answerStations t p
  · exact moves_answerService t p
  · exact moves_answerSetLine t p
  · exact moves_answerAmendBook t p
  · exact moves_answerCancelBook t p
  · exact .refl

/-! ### The execution of a request -/

theorem executable_spec {p : Part} {it : Item} (h : p.executable = some it) :
    ∃ rest, p.cmd.list = it :: rest ∧ p.cmd.resetting = none ∧ (it.addressed = true → p.slotsUsed < 8) := by
  unfold executable readyHead at h
  split at h
  · next y hy =>
    split at hy
    · next rest hl =>
      split at hy
      · next hr =>
        split at h
        · next hs =>
          cases hy
          cases h
          refine ⟨rest, hl, by simpa using (Bool.and_eq_true_iff.1 hr).1, fun ha => ?_⟩
          rw [ha, Bool.not_true, Bool.false_or] at hs
          exact of_decide_eq_true hs
        · cases h
      · cases hy
    · cases hy
  · cases h

theorem alike_popCommand {p : Part} (h : p.cmd.resetting = none) : Alike p p.popCommand :=
  alike_onCmd fun ⟨ha, hs, hc, _⟩ => ⟨ha, hs, by simp only [onCmd_fields, List.length_tail]; omega,
    fun r hr => absurd (show p.cmd.resetting = some r from hr) (by simp [h])⟩

theorem alike_placeReply {it : Item} (r : ResultCode) (l : List Byte) {p : Part}
    (h : it.addressed = true → p.slotsUsed < 8) : Alike p (p.placeReply it r l) := by
  unfold placeReply
  split
  · next ha =>
    refine alike_onPort (Or.inl rfl) fun ⟨hp, _, hc, hr⟩ => ⟨hp, ?_, hc, hr⟩
    have hlt := h ha
    simp only [slotsUsed, onPort_fields, List.length_append, List.length_singleton] at hlt ⊢
    omega
  · exact .of_stations rfl rfl rfl rfl rfl rfl rfl rfl rfl

/-- An answer leaves the slots of the output list in use as they are. -/
theorem slotsUsed_congr {p q : Part} (ho : q.port.outList = p.port.outList) (hc : q.cmd = p.cmd) :
    q.slotsUsed = p.slotsUsed := by
  simp only [slotsUsed, ho, hc]

theorem answer_slots (t : Ticket) (p : Part) : (p.answer t).part.slotsUsed = p.slotsUsed := by
  obtain ⟨h1, h2, h3, h4, h5, h6, h7⟩ := answerRead_part t p
  have hflush : p.flushWaiting.port = p.port ∧ p.flushWaiting.cmd = p.cmd := by
    unfold flushWaiting
    dsimp only
    rw [foldl_keeps _ Part.port (by intros; simp), foldl_keeps _ Part.cmd (by intros; simp)]
    simp
  unfold answer
  split
  · rw [h1]
  · rw [h2]
  · rw [h3]
  · rw [h4]
  · rw [h5]
  · rw [h6]
  · rw [h7]
  · unfold answerRun enterRun
    dsimp only
    repeat' split
    all_goals exact slotsUsed_congr (by simp [refuse]) (by simp [refuse])
  · unfold answerStop; repeat' split
    all_goals rfl
  · unfold answerHalt; split
    · exact slotsUsed_congr (by simp) (by simp)
    · rfl
  · unfold answerResume leaveHalt
    repeat' split
    all_goals exact slotsUsed_congr (by simp [refuse, hflush]) (by simp [refuse, hflush])
  · unfold answerClearFaults; split
    · exact slotsUsed_congr (by simp [clearFaults, clearFlags]) (by simp)
    · rfl
  · rfl
  · unfold answerLoadPattern; repeat' split
    all_goals exact slotsUsed_congr (by simp [refuse]) (by simp [refuse])
  · unfold answerClearPattern; dsimp only; repeat' split
    all_goals exact slotsUsed_congr (by simp [refuse]) (by simp [refuse])
  · unfold answerSetPunch; repeat' split
    all_goals rfl
  · unfold answerSetProfile; dsimp only; repeat' split
    all_goals rfl
  · unfold answerMapSpindles; repeat' split
    all_goals rfl
  · unfold answerSetCloser; dsimp only; repeat' split
    all_goals rfl
  · unfold answerSetTimebase; repeat' split
    all_goals rfl
  · unfold answerStartTimebase startTimebase; repeat' split
    all_goals rfl
  · unfold answerStations stationsChanged punchLosesEffect; repeat' split
    all_goals exact slotsUsed_congr (by simp [refuse]) (by simp [refuse])
  · unfold answerService stationsChanged punchLosesEffect; repeat' split
    all_goals exact slotsUsed_congr (by simp [refuse]) (by simp [refuse])
  · unfold answerSetLine; repeat' split
    all_goals rfl
  · unfold answerAmendBook amend; repeat' split
    all_goals exact slotsUsed_congr (by simp [refuse]) (by simp [refuse])
  · unfold answerCancelBook; repeat' split
    all_goals exact slotsUsed_congr (by simp [refuse]) (by simp [refuse])
  · rfl

/-- The completion of a RESET gives its slot to the reply (R183, R184). -/
theorem alike_completeReset (p : Part) : Alike p p.completeReset := by
  unfold completeReset
  split
  · next r it rest hr hl =>
    unfold placeReply
    split
    · next ha =>
      refine ⟨rfl, rfl, fun _ => rfl, fun _ => rfl, rfl, rfl, rfl, rfl, rfl, rfl, rfl, rfl, rfl, rfl, Or.inl rfl, id, id,
        fun ⟨hp, hs, hc, hh⟩ => ⟨hp, ?_, ?_, ?_⟩⟩
      · obtain ⟨y, hy, hres⟩ := hh r hr
        have hyit : y = it := by simpa [hl, eq_comm] using hy
        have hreserved : r.reserved = true := by rw [hres, hyit, ha]
        simp [slotsUsed, hr, hreserved, popCommand] at hs ⊢
        omega
      · simp [popCommand, hl] at hc ⊢
        omega
      · simp
    · refine ⟨rfl, rfl, fun _ => rfl, fun _ => rfl, rfl, rfl, rfl, rfl, rfl, rfl, rfl, rfl, rfl, rfl, Or.inl rfl, id, id,
        fun ⟨hp, hs, hc, hh⟩ => ⟨hp, ?_, ?_, ?_⟩⟩
      · simp [slotsUsed, popCommand] at hs ⊢
        omega
      · simp [popCommand, hl] at hc ⊢
        omega
      · simp
  · exact .of_stations rfl rfl rfl rfl rfl rfl rfl rfl rfl

theorem moves_startReset {it : Item} {p : Part} (h : p.executable = some it) : Moves p (p.startReset it) := by
  obtain ⟨rest, hl, hr, hs⟩ := executable_spec h
  have hport : p.linkReset.port = { p.port with linkError := false } := by
    simp [linkReset, resetSup, resetTracker, resetBooks, resetCloser]
  have hbegun : Moves p (p.linkReset.onCmd fun c => { c with resetting := some (resetPoint it p p.linkReset) }) := by
    refine (Moves.single .linkReset).tail (.alike (alike_onCmd fun ⟨hp, hs', hc, _⟩ => ⟨hp, ?_, hc, ?_⟩))
    · have hused : p.slotsUsed = p.port.outList.length := by simp [slotsUsed, hr]
      have hused' : p.linkReset.slotsUsed = p.port.outList.length := by simp [slotsUsed, hr, hport]
      change p.linkReset.port.outList.length + (if it.addressed = true then 1 else 0) ≤ 8
      rw [hport]
      split
      · next ha => have := hs ha; dsimp only; omega
      · dsimp only; omega
    · intro r hr'
      simp only [onCmd_fields, Option.mem_def, Option.some.injEq] at hr'
      exact ⟨it, by simp [hl], by rw [← hr']; rfl⟩
  unfold startReset
  exact hbegun.thenIf (alike_completeReset _).moves

theorem moves_executeHead {p : Part} (h : p.isDue .execute = true) : Moves p p.executeHead := by
  obtain ⟨it, hit⟩ := Option.isSome_iff_exists.1 (show p.executable.isSome = true from h)
  obtain ⟨rest, hl, hr, hs⟩ := executable_spec hit
  by_cases hreset : it.ticket.code = 21 ∧ it.ticket.body.length = 1
  · simp only [executeHead, hit, hreset, and_self, if_true]
    exact moves_startReset hit
  · rw [executeHead_answer hit (by tauto)]
    refine (alike_popCommand hr).moves.trans ((moves_answer _ _).tail (.alike (alike_placeReply _ _ fun ha => ?_)))
    rw [answer_slots]
    exact hs ha

/-! ### What a step can do -/

/-- Every due step is a chain of moves. -/
theorem moves_takeDue {d : Due} {p : Part} (h : p.isDue d = true) : Moves p (p.takeDue d) := by
  cases d with
  | execute => exact moves_executeHead h
  | resetCompletes => exact (alike_completeReset p).moves
  | classify => exact moves_classifyHead h
  | admitSheet => exact moves_admitHead h
  | jam s =>
    simp only [takeDue, jammed]
    split
    · exact moves_raise _ _ p
    · exact .refl
  | ramStall => exact moves_raise _ _ p
  | ramStuck => exact (alike_onPunch _ p).moves.trans (moves_raise _ _ _)
  | dwell i => exact (moves_onSpindle i _ p).trans (moves_afterSpindle _)
  | plungeWindow i =>
    exact (moves_addFaulted i p).trans ((moves_onSpindle i _ _).trans (moves_afterSpindle _))
  | drillStuck i => exact moves_spindleSticks i p
  | closerWindow =>
    exact .single (.fail .window (by simp only [isDue, Bool.and_eq_true] at h; simp [cycleRunning, h.1]))
  | dumpWindow =>
    exact .single (.fail .window (by simp only [isDue, Bool.and_eq_true] at h; simp [cycleRunning, h.1]))

/-- Every event but a reset is a chain of moves. -/
theorem moves_event {c : Instr} {f : Part → Part} (hf : outsideEvent c = some f)
    (hc : ∀ pins, c ≠ .powerOn pins ∧ c ≠ .hardReset pins) (p : Part) : Moves p (f p) := by
  cases c
  case powerOn pins => exact absurd rfl (hc pins).1
  case hardReset pins => exact absurd rfl (hc pins).2
  all_goals cases hf
  case ticketReceived => exact moves_ticketArrives _ _ p
  case straySymbol => exact moves_symbolArrives _ p
  case downstreamHold => exact (alike_onPort (Or.inl rfl) (PortsFit.congr rfl rfl rfl rfl)).moves
  case transmitBegin => exact moves_beginTransmit p
  case ticketSent => exact moves_ticketLeaves p
  case entrySensor double => exact moves_senseMoving .entry p fun h => moves_bindEntry double p h
  case punchRegister =>
    exact moves_senseMoving .punchRegister p fun _ =>
      moves_bindStation _ _ _ moves_handToPunch rfl (by simp) (by simp) p
  case drillRegister =>
    exact moves_senseMoving .drillRegister p fun _ =>
      moves_bindStation _ _ _ moves_handToDrill rfl (by simp) (by simp) p
  case exitSensor => exact moves_exitSensor p
  case landing l => exact moves_sheetLands l p
  case latchCheckReport l => exact moves_latchCheck l p
  case overCurrent n => exact moves_overCurrent n p
  case ramDown => exact moves_ramReachesBottom p
  case ramUp => exact moves_ramReachesTop p
  case spindleDown i => exact moves_spindleReachesBottom i p
  case spindleUp i => exact moves_spindleReachesTop i p
  case clampDone => exact moves_clampDone p
  case hangerIn => exact moves_hangerIn p
  case hangerEmpty => exact moves_hangerRunsEmpty p
  case hangerEmptyClears => exact (alike_onCloser ⟨rfl, rfl, rfl, rfl, rfl⟩).moves
  case loopPulse => exact moves_loopPulse p
  case cutDone => exact moves_cutDone p
  case closeDone => exact moves_closeDone p
  case ejectDone => exact moves_ejectDone p
  case dumpDone => exact moves_dumpDone p
  case referenceTick good =>
    dsimp only
    split
    · exact moves_goodTick p
    · exact moves_badTick p
  case referenceGap => exact moves_badTick p
  case encoderEdge x => exact moves_encoderEdge x p
  case guardOpen x => exact moves_openGuardOf x p
  case guardClose x => exact moves_closeGuardOf x p
  case supplyLow => exact moves_supplyFalls p
  case driverShutdown => exact moves_driverShuts p
  case externalStop => exact moves_stopPressed p
  case startReceived => exact (alike_startSymbol p).moves
  case ramUpLevelClears | dieIdentityChange => exact (alike_onPunch _ p).moves
  case spindleLevelClears => exact moves_onSpindle _ _ p
  case driverHot | supplyLowInactive | driverShutdownInactive | driverHotInactive | stopInputInactive =>
    exact (alike_onSup_line rfl).moves

/-- A property that every move keeps is kept by a chain of moves. -/
theorem Moves.keeps {P : Part → Prop} (h : ∀ p q, Move p q → P p → P q) {p q : Part} (hm : Moves p q) (hp : P p) : P q := by
  induction hm with
  | refl => exact hp
  | tail _ hlast ih => exact h _ _ hlast ih

end Part

/-- A property of parts that every move keeps, and that a reset gives, is kept by every step of the machine. -/
theorem step_keeps {P : Part → Prop} (move : ∀ p q, Part.Move p q → P p → P q)
    (reset : ∀ p pins b, P (Part.resetTo pins b p)) {s t : State} (h : P s.toPart) (hs : step s = .next t) :
    P t.toPart := by
  refine step_induct (fun d p hp hd => Part.Moves.keeps move (Part.moves_takeDue hd) hp) (fun c f hf p hp => ?_) h hs
  by_cases hc : ∀ pins, c ≠ .powerOn pins ∧ c ≠ .hardReset pins
  · exact Part.Moves.keeps move (Part.moves_event hf hc p) hp
  · cases c
    case powerOn pins => cases hf; exact reset p pins true
    case hardReset pins => cases hf; exact reset p pins p.sup.powerUpFlag
    all_goals exact absurd (fun _ => ⟨by simp, by simp⟩) hc

end Sys2Proof.Machine
end

section
/-! SUPPORT. What the moves do to the queue, the patterns, the timebase and the line: one rule for each composite move;
and the invariants of those blocks. -/

namespace Sys2Proof.Machine

namespace Part

/-! ### Entries that become DONE: patterns and use counts -/

theorem pattern?_countDone (o : Outcome) (e : Entry) (p : Part) (n : Nat) :
    (p.countDone o e).pattern? n = p.pattern? n := by
  unfold countDone
  split
  · rfl
  · rw [← pattern?_lowerUse e.pattern n p]
    cases o <;> exact pattern?_congr (by simp) n

/-- A non-VOID entry that becomes DONE counts no more for its pattern (R54). -/
theorem useCount_countDone (o : Outcome) (e : Entry) (p : Part) {n : Nat} (hn : n < 64) :
    (p.countDone o e).useCount n = p.useCount n - if !e.isVoid && e.pattern == n then 1 else 0 := by
  unfold countDone
  by_cases hv : e.isVoid = true
  · simp [hv]
  · have hlow : (p.countDone o e).useCount n = (p.lowerUse e.pattern).useCount n := by
      unfold countDone
      rw [if_neg hv]
      cases o <;> exact useCount_congr (by simp) n
    unfold countDone at hlow
    rw [hlow, useCount_lowerUse]
    by_cases he : n = e.pattern
    · simp [hv, hn, he.symm]
    · simp [he, show (e.pattern == n) = false by simpa using fun h => he h.symm]

theorem pattern?_finishAll (pick : Entry → Bool) (o : Outcome) (p : Part) (n : Nat) :
    (p.finishAll pick o).pattern? n = p.pattern? n := by
  unfold finishAll
  exact (foldl_keeps _ (fun q => q.pattern? n) (fun q e => pattern?_countDone o e q n) _ _).trans rfl

theorem useCount_foldl_countDone (o : Outcome) {n : Nat} (hn : n < 64) (l : List Entry) (p : Part) :
    (l.foldl (fun p e => p.countDone o e) p).useCount n =
      p.useCount n - l.countP fun e => !e.isVoid && e.pattern == n := by
  induction l generalizing p with
  | nil => simp
  | cons e l ih =>
    rw [List.foldl_cons, ih, useCount_countDone o e p hn, List.countP_cons]
    omega

/-- The use counts fall by the entries that become DONE (R20, R54). -/
theorem useCount_finishAll (pick : Entry → Bool) (o : Outcome) (p : Part) {n : Nat} (hn : n < 64) :
    (p.finishAll pick o).useCount n =
      p.useCount n - p.tracker.queue.countP fun e => pick e && !e.isVoid && e.pattern == n := by
  unfold finishAll
  dsimp only
  rw [useCount_foldl_countDone o hn, List.countP_filter]
  have hfun : (fun e : Entry => (!e.isVoid && e.pattern == n) && pick e) =
      fun e => pick e && !e.isVoid && e.pattern == n := by
    funext e
    cases pick e <;> simp
  rw [hfun]
  rfl

/-! ### A halt -/

theorem pattern?_loseTransit (p : Part) (n : Nat) : p.loseTransit.pattern? n = p.pattern? n := by
  unfold loseTransit
  rw [foldl_keeps _ (fun q => q.pattern? n) (fun q e => pattern?_congr (by simp) n), pattern?_finishAll]

theorem stopAll_pattern? (p : Part) (n : Nat) : p.stopAll.pattern? n = p.pattern? n := by
  have hlose : p.stopAll.pattern? n = (p.onSup fun u => { u with line := .halt }).haltStations.loseTransit.pattern? n :=
    rfl
  rw [hlose, pattern?_loseTransit]
  exact pattern?_congr (by simp) n

/-- The use counts fall by the entries that were in transit (R25, R54). -/
theorem stopAll_useCount (p : Part) {n : Nat} (hn : n < 64) :
    p.stopAll.useCount n =
      p.useCount n - p.tracker.queue.countP fun e => e.stage.inTransit && !e.isVoid && e.pattern == n := by
  have hlose : p.stopAll.useCount n =
      ((p.onSup fun u => { u with line := .halt }).haltStations.finishAll (fun e => e.stage.inTransit) .lost).useCount n := by
    have hfold : p.stopAll.useCount n =
      (p.onSup fun u => { u with line := .halt }).haltStations.loseTransit.useCount n := rfl
    rw [hfold]
    unfold loseTransit
    rw [foldl_keeps _ (fun q => q.useCount n) (fun q e => useCount_congr (by simp) n)]
  rw [hlose, useCount_finishAll _ _ _ hn]
  have hu : (p.onSup fun u => { u with line := .halt }).haltStations.useCount n = p.useCount n :=
    useCount_congr (by simp) n
  have ht : (p.onSup fun u => { u with line := .halt }).haltStations.tracker = p.tracker := by
    simp [haltStations, haltPunch_tracker, haltDrill_tracker]
  rw [hu, ht]

theorem stopAll_sup (p : Part) : p.stopAll.sup = { p.sup with line := .halt, pocketWait := false } := by
  simp [stopAll]

/-! ### A landing, an admission, a link reset -/

theorem finishLanding_frame (l : LandingSensor) (e : Entry) (p : Part) :
    (p.finishLanding l e).port = p.port ∧ (p.finishLanding l e).cmd = p.cmd ∧
    (p.finishLanding l e).punch = p.punch ∧ (p.finishLanding l e).drill = p.drill ∧
    (p.finishLanding l e).timebase = p.timebase ∧ (p.finishLanding l e).stations = p.stations ∧
    (p.finishLanding l e).sup = p.sup := by
  rw [finishLanding_eq]
  simp

theorem finishLanding_tracker (l : LandingSensor) (e : Entry) (p : Part) : (p.finishLanding l e).tracker =
    (p.modifyOldest .dropping (Entry.finish (if l = .reject then .diverted else .gathered))).tracker := by
  rw [finishLanding_eq]
  simp

theorem finishLanding_pattern? (l : LandingSensor) (e : Entry) (p : Part) (n : Nat) :
    (p.finishLanding l e).pattern? n = p.pattern? n := by
  rw [finishLanding_eq, pattern?_countDone]
  exact pattern?_congr (by simp) n

theorem finishLanding_useCount (l : LandingSensor) (e : Entry) (p : Part) {n : Nat} (hn : n < 64) :
    (p.finishLanding l e).useCount n = p.useCount n - if !e.isVoid && e.pattern == n then 1 else 0 := by
  have hkept : (p.modifyOldest .dropping (Entry.finish (if l = .reject then .diverted else .gathered))).useCount n =
      p.useCount n := useCount_congr (by simp) n
  rw [finishLanding_eq, useCount_countDone _ _ _ hn]
  exact congrArg (· - _) hkept

/-- The entry that a ticket becomes (R2). -/
def newEntry (t : Ticket) (f : SheetFields) (why : Option VoidReason) (p : Part) : Entry :=
  { id := p.tracker.nextId, ticket := t, sequence := f.sequence, book := f.book, leaf := f.leaf, role := f.role
    face := f.face, pattern := f.pattern, voidReason := why }

theorem pushEntry_frame (t : Ticket) (f : SheetFields) (why : Option VoidReason) (p : Part) :
    (p.pushEntry t f why).port = p.port ∧ (p.pushEntry t f why).cmd = p.cmd ∧
    (p.pushEntry t f why).books = p.books ∧ (p.pushEntry t f why).punch = p.punch ∧
    (p.pushEntry t f why).drill = p.drill ∧ (p.pushEntry t f why).closer = p.closer ∧
    (p.pushEntry t f why).timebase = p.timebase ∧ (p.pushEntry t f why).stations = p.stations ∧
    (p.pushEntry t f why).sup = p.sup := by
  unfold pushEntry
  dsimp only
  split <;> simp

theorem pushEntry_tracker (t : Ticket) (f : SheetFields) (why : Option VoidReason) (p : Part) :
    (p.pushEntry t f why).tracker = { p.tracker with
      queue := p.tracker.queue ++ [p.newEntry t f why], nextId := p.tracker.nextId + 1 } := by
  unfold pushEntry
  dsimp only
  split <;> simp [newEntry]

theorem pushEntry_pattern? (t : Ticket) (f : SheetFields) (why : Option VoidReason) (p : Part) (n : Nat) :
    (p.pushEntry t f why).pattern? n = p.pattern? n := by
  unfold pushEntry
  dsimp only
  split
  · rw [pattern?_raiseUse]; rfl
  · rfl

theorem pushEntry_useCount (t : Ticket) (f : SheetFields) (why : Option VoidReason) (p : Part) {n : Nat} (hn : n < 64) :
    (p.pushEntry t f why).useCount n = p.useCount n + if why = none ∧ n = f.pattern then 1 else 0 := by
  unfold pushEntry
  dsimp only
  split
  · next hw =>
    rw [useCount_raiseUse]
    simp only [hn, hw, true_and]
    split <;> rfl
  · next hw => simp [hw]; rfl

theorem continueBook_frame (f : SheetFields) (p : Part) :
    (p.continueBook f).port = p.port ∧ (p.continueBook f).cmd = p.cmd ∧ (p.continueBook f).tracker = p.tracker ∧
    (p.continueBook f).patterns = p.patterns ∧ (p.continueBook f).punch = p.punch ∧
    (p.continueBook f).drill = p.drill ∧ (p.continueBook f).closer = p.closer ∧
    (p.continueBook f).timebase = p.timebase ∧ (p.continueBook f).stations = p.stations ∧
    (p.continueBook f).sup = p.sup := by
  simp [continueBook]

theorem openBook_frame (f : SheetFields) (h : BookHeader) (p : Part) :
    (p.openBook f h).port = p.port ∧ (p.openBook f h).cmd = p.cmd ∧ (p.openBook f h).tracker = p.tracker ∧
    (p.openBook f h).patterns = p.patterns ∧ (p.openBook f h).punch = p.punch ∧ (p.openBook f h).drill = p.drill ∧
    (p.openBook f h).closer = p.closer ∧ (p.openBook f h).timebase = p.timebase ∧
    (p.openBook f h).stations = p.stations ∧ (p.openBook f h).sup = p.sup :=
  ⟨rfl, rfl, rfl, rfl, rfl, rfl, rfl, rfl, rfl, rfl⟩

theorem freeHead_frame (p : Part) :
    p.freeHead.port = p.port ∧ p.freeHead.cmd = p.cmd ∧ p.freeHead.patterns = p.patterns ∧ p.freeHead.punch = p.punch ∧
    p.freeHead.drill = p.drill ∧ p.freeHead.closer = p.closer ∧ p.freeHead.timebase = p.timebase ∧
    p.freeHead.stations = p.stations ∧ p.freeHead.sup = p.sup := by
  unfold freeHead
  dsimp only
  repeat' split
  all_goals simp

theorem freeHead_tracker (p : Part) : p.freeHead.tracker = { p.tracker with queue := p.tracker.queue.tail } := by
  unfold freeHead
  split
  · next h => cases hp : p.tracker; simp_all
  · next h =>
    dsimp only
    split <;> simp [h]

theorem linkReset_tracker (p : Part) : p.linkReset.tracker = { p.tracker with
    expected := none, gate := .reject
    queue := p.tracker.queue.map fun e => if e.stage != .done then e.finish .flushed else e } := by
  simp [linkReset, resetTracker, resetBooks, finishAll_tracker, resetCloser, haltDrill_tracker, haltPunch_tracker,
    resetSup]

theorem linkReset_port (p : Part) : p.linkReset.port = { p.port with linkError := false } := by
  simp [linkReset, resetSup, resetTracker, resetBooks, resetCloser]

theorem linkReset_sup (p : Part) : p.linkReset.sup = { p.sup with
    line := .idle, pocketWait := false, driverHotFlag := p.sup.driverHot, haltRecord := none, secondary := none
    more := false } := by
  simp [linkReset, resetSup, resetTracker, resetBooks, resetCloser]

/-- The part whose entries a link reset flushes has the queue and the patterns of the part before it. -/
theorem resetCloser_before (p : Part) :
    p.resetSup.haltPunch.haltDrill.resetCloser.tracker = p.tracker ∧
    p.resetSup.haltPunch.haltDrill.resetCloser.patterns = p.patterns ∧
    p.resetSup.haltPunch.haltDrill.resetCloser.books = p.books := by
  simp [resetCloser, resetSup, haltDrill_tracker, haltPunch_tracker]

theorem linkReset_pattern? (p : Part) (n : Nat) : p.linkReset.pattern? n = p.pattern? n := by
  obtain ⟨-, hp, -⟩ := resetCloser_before p
  have hflush : p.linkReset.pattern? n =
      (p.resetSup.haltPunch.haltDrill.resetCloser.finishAll (fun e => e.stage != .done) .flushed).pattern? n := rfl
  rw [hflush, pattern?_finishAll]
  exact pattern?_congr hp n

theorem linkReset_useCount (p : Part) {n : Nat} (hn : n < 64) :
    p.linkReset.useCount n =
      p.useCount n - p.tracker.queue.countP fun e => e.stage != .done && !e.isVoid && e.pattern == n := by
  obtain ⟨ht, hp, -⟩ := resetCloser_before p
  have hflush : p.linkReset.useCount n =
      (p.resetSup.haltPunch.haltDrill.resetCloser.finishAll (fun e => e.stage != .done) .flushed).useCount n := rfl
  rw [hflush, useCount_finishAll _ _ _ hn, ht, useCount_congr hp n]

theorem clearCloser_frame' (p : Part) : p.clearCloser.port = p.port ∧ p.clearCloser.cmd = p.cmd ∧
    p.clearCloser.tracker = p.tracker ∧ p.clearCloser.patterns = p.patterns ∧ p.clearCloser.timebase = p.timebase ∧
    p.clearCloser.stations = p.stations ∧ p.clearCloser.sup = p.sup := by
  simp

/-! ### Patterns, timebase, locks and the line -/

/-- The patterns, the timebase and what the service lock locks stay, and a line that was stopped stays stopped. -/
structure Steady (p q : Part) : Prop where
  pattern : ∀ n, q.pattern? n = p.pattern? n
  timebase : q.timebase = p.timebase
  stations : q.stations = p.stations
  running : q.Running → p.Running

theorem Steady.of_frame {p q : Part} (hp : ∀ n, q.pattern? n = p.pattern? n) (ht : q.timebase = p.timebase)
    (hs : q.stations = p.stations) (hl : q.sup = p.sup) : Steady p q :=
  ⟨hp, ht, hs, by unfold Running; rw [hl]; exact id⟩

/-- What a move does to the patterns, the timebase, the locks and the line: nothing, or one of six things. -/
theorem Move.steady_or {p q : Part} (h : Move p q) :
    Steady p q ∨ Alike p q ∨ (∃ n d, n ≠ 0 ∧ q = p.setPattern n fun x => { x with loaded := d }) ∨
    (p.timebase.state = .valid ∧ q = p.onSup fun u => { u with line := .run }) ∨
    (∃ f, (p.stations.lock = true → (f p.stations).lock = true ∧
      (f p.stations).outOfService = p.stations.outOfService) ∧ q = p.onStations f) ∨
    (∃ f, ClockKept p.timebase (f p.timebase) ∧
      (p.Running → p.timebase.state = .valid → (f p.timebase).state = .valid) ∧ q = p.onTimebase f) ∨
    (∃ f, ClockKept p.timebase (f p.timebase) ∧ q = (p.onTimebase f).stopAll) := by
  have frame {q : Part} (hp : q.patterns = p.patterns) (ht : q.timebase = p.timebase) (hs : q.stations = p.stations)
      (hl : q.sup = p.sup) : Steady p q := .of_frame (pattern?_congr hp) ht hs hl
  cases h with
  | alike h => exact .inr (.inl h)
  | clock f hk hv => exact .inr (.inr (.inr (.inr (.inr (.inl ⟨f, hk, hv, rfl⟩)))))
  | service f h => exact .inr (.inr (.inr (.inr (.inl ⟨f, h, rfl⟩))))
  | pattern n d h => exact .inr (.inr (.inl ⟨n, d, h, rfl⟩))
  | run h => exact .inr (.inr (.inr (.inl ⟨h, rfl⟩)))
  | stop f hk hl => exact .inr (.inr (.inr (.inr (.inr (.inr ⟨f, hk, rfl⟩)))))
  | advance a b f => exact .inl (frame (by simp) (by simp) (by simp) (by simp))
  | land l e ho =>
    obtain ⟨-, -, -, -, ht, hs, hl⟩ := finishLanding_frame l e p
    exact .inl (.of_frame (finishLanding_pattern? l e p) ht hs hl)
  | push t f r =>
    obtain ⟨-, -, -, -, -, -, ht, hs, hl⟩ := pushEntry_frame t f (some r) p
    exact .inl (.of_frame (pushEntry_pattern? t f _ p) ht hs hl)
  | continues t f b =>
    obtain ⟨-, -, -, -, -, -, ht, hs, hl⟩ := pushEntry_frame t f none (p.continueBook f)
    obtain ⟨-, -, -, hp', -, -, -, ht', hs', hl'⟩ := continueBook_frame f p
    exact .inl (.of_frame (fun n => (pushEntry_pattern? t f _ _ n).trans (pattern?_congr hp' n)) (ht.trans ht')
      (hs.trans hs') (hl.trans hl'))
  | opens t f h =>
    obtain ⟨-, -, -, -, -, -, ht, hs, hl⟩ := pushEntry_frame t f none (p.openBook f h)
    exact .inl (.of_frame (fun n => pushEntry_pattern? t f _ _ n) ht hs hl)
  | mark m => unfold markEntry; split <;> exact .inl (frame rfl rfl rfl rfl)
  | freeHead =>
    obtain ⟨-, -, hp, -, -, -, ht, hs, hl⟩ := freeHead_frame (p.onPort fun y => { y with sending := none })
    exact .inl (frame hp ht hs hl)
  | freeRecord => exact .inl (frame rfl rfl rfl rfl)
  | send x => exact .inl (frame rfl rfl rfl rfl)
  | spoil n why lower => exact .inl (frame (by simp) (by simp) (by simp) (by simp))
  | fail c => exact .inl (frame (by simp) (by simp) (by simp) (by simp))
  | closerStep st w => exact .inl (frame (by simp) (by simp) (by simp) (by simp))
  | take k => exact .inl (frame (by simp) (by simp) (by simp) (by simp))
  | eject => exact .inl (frame (by simp) (by simp) (by simp) (by simp))
  | dump => exact .inl (frame (by simp) (by simp) (by simp) (by simp))
  | clear => exact .inl (frame (by simp) (by simp) (by simp) (by simp))
  | grant k e b => exact .inl (frame (by simp) (by simp) (by simp) (by simp))
  | amend b loops => exact .inl (frame rfl rfl rfl rfl)
  | flush => exact .inl (.of_frame (pattern?_finishAll _ _ p) (by simp) (by simp) (by simp))
  | linkReset =>
    refine .inl ⟨linkReset_pattern? p, by simp, by simp, fun h => ?_⟩
    simp [Running, linkReset_sup] at h

theorem blankKept_move {p q : Part} (h : Move p q) (hp : p.BlankKept) : q.BlankKept := by
  unfold BlankKept at hp ⊢
  rcases h.steady_or with h | h | ⟨n, d, hn, rfl⟩ | ⟨-, rfl⟩ | ⟨f, -, rfl⟩ | ⟨f, -, -, rfl⟩ | ⟨f, -, rfl⟩
  · rw [h.pattern, hp]
  · rw [h.pattern, hp]
  · rw [pattern?_setPattern, dif_pos (by decide), if_neg (Ne.symm hn), hp]
  · exact hp
  · exact hp
  · exact hp
  · rw [stopAll_pattern?]; exact hp

theorem runsValid_move {p q : Part} (h : Move p q) (hp : p.RunsValid) : q.RunsValid := by
  intro hq
  rcases h.steady_or with h | h | ⟨n, d, hn, rfl⟩ | ⟨hv, rfl⟩ | ⟨f, -, rfl⟩ | ⟨f, -, hv, rfl⟩ | ⟨f, -, rfl⟩
  · rw [h.timebase]; exact hp (h.running hq)
  · rw [h.clock]; exact hp (h.running hq)
  · simpa using hp (by simpa using hq)
  · exact hv
  · exact hp hq
  · exact hv hq (hp hq)
  · simp [stopAll_sup] at hq

/-- What stands from START TIMEBASE on, and from the setting of the service lock on (R122, R143). -/
structure LocksStand (p q : Part) : Prop where
  clock : ClockKept p.timebase q.timebase
  lock : p.stations.lock = true → q.stations.lock = true ∧ q.stations.outOfService = p.stations.outOfService

theorem LocksStand.trans {p q r : Part} (h : LocksStand p q) (h' : LocksStand q r) : LocksStand p r := by
  refine ⟨fun hu => ?_, fun hl => ?_⟩
  · obtain ⟨hs, hu'⟩ := h.clock hu
    obtain ⟨hs', hu''⟩ := h'.clock hu'
    exact ⟨hs'.trans hs, hu''⟩
  · obtain ⟨hl', ho⟩ := h.lock hl
    obtain ⟨hl'', ho'⟩ := h'.lock hl'
    exact ⟨hl'', ho'.trans ho⟩

theorem LocksStand.of_eq {p q : Part} (ht : q.timebase = p.timebase) (hs : q.stations = p.stations) : LocksStand p q :=
  ⟨fun hu => by rw [ht]; exact ⟨rfl, hu⟩, fun hl => by rw [hs]; exact ⟨hl, rfl⟩⟩

theorem locksStand_move {p q : Part} (h : Move p q) : LocksStand p q := by
  rcases h.steady_or with h | h | ⟨n, d, hn, rfl⟩ | ⟨hv, rfl⟩ | ⟨f, hf, rfl⟩ | ⟨f, hk, -, rfl⟩ | ⟨f, hk, rfl⟩
  · exact .of_eq h.timebase h.stations
  · exact ⟨fun hu => ⟨h.settings, by rw [h.clock]; exact hu⟩, fun hl => ⟨h.lock.trans hl, h.outOfService⟩⟩
  · exact .of_eq (by simp) (by simp)
  · exact .of_eq rfl rfl
  · exact ⟨fun hu => ⟨rfl, hu⟩, hf⟩
  · exact ⟨hk, fun hl => ⟨hl, rfl⟩⟩
  · exact ⟨by simpa using hk, fun hl => by simpa using hl⟩

theorem locksStand_moves {p q : Part} (h : Moves p q) : LocksStand p q :=
  Moves.keeps (P := LocksStand p) (fun _ _ hm hp => hp.trans (locksStand_move hm)) h (.of_eq rfl rfl)

end Part

/-- Settles O54: each of the two is kept by every move, and holds after a reset. -/
theorem stepKeepsBlankAndRunValid : Obligations.StepKeepsBlankAndRunValid := fun _ _ hs =>
  ⟨fun h => step_keeps (fun _ _ => Part.blankKept_move) (fun _ _ _ => (Part.pattern?_congr rfl 0).trans
    (by decide : Part.reset.pattern? 0 = some .blank)) h hs,
    fun h => step_keeps (fun _ _ => Part.runsValid_move) (fun _ _ _ h => by simp [Part.resetTo, Part.keepLevels, Part.reset] at h) h hs⟩

/-- Settles O60: what is locked stands along every move, and only the resets are none. -/
theorem locksStandUntilReset : Obligations.LocksStandUntilReset := by
  intro s t c rest hp hc hs
  have hstand : Part.LocksStand s.toPart t.toPart := by
    unfold step at hs
    rw [hp] at hs
    obtain ⟨q, hq, hstep⟩ := exec_partStep c { s with pending := rest }
    change exec c { s with pending := rest } = .next t at hs
    rw [hq] at hs
    cases hs
    cases hstep with
    | idle => exact .of_eq rfl rfl
    | due d hd => exact Part.locksStand_moves (Part.moves_takeDue hd)
    | event f hf =>
      have hsettle : Part.Moves s.toPart s.toPart.settle :=
        Part.settle_induct (Part.Moves s.toPart) (fun d p hm hd => hm.trans (Part.moves_takeDue hd)) _ .refl
      exact Part.locksStand_moves (hsettle.trans (Part.moves_event hf hc _))
  exact ⟨hstand.clock, hstand.lock⟩

end Sys2Proof.Machine
end

section
/-! SUPPORT. What the moves do to the queue, in seven kinds; the order of the queue and the use counts. -/

namespace Sys2Proof.Machine

/-- Either no item is picked, or the first one that is picked is changed. -/
theorem modifyFirst_cases {α : Type} (pick : α → Bool) (f : α → α) (l : List α) :
    ((∀ x ∈ l, pick x = false) ∧ modifyFirst pick f l = l) ∨
    ∃ a x r, l = a ++ x :: r ∧ (∀ y ∈ a, pick y = false) ∧ pick x = true ∧ modifyFirst pick f l = a ++ f x :: r := by
  induction l with
  | nil => exact .inl ⟨by simp, rfl⟩
  | cons y l ih =>
    cases hy : pick y with
    | true => exact .inr ⟨[], y, l, rfl, by simp, hy, by simp [modifyFirst, hy]⟩
    | false =>
      rcases ih with ⟨hn, he⟩ | ⟨a, x, r, rfl, ha, hx, he⟩
      · exact .inl ⟨by simpa [hy] using hn, by simp [modifyFirst, hy, he]⟩
      · exact .inr ⟨y :: a, x, r, rfl, by simpa [hy] using ha, hx, by simp [modifyFirst, hy, he]⟩

theorem modifyFirst_length {α : Type} (pick : α → Bool) (f : α → α) (l : List α) :
    (modifyFirst pick f l).length = l.length := by
  induction l with
  | nil => rfl
  | cons x l ih => unfold modifyFirst; split <;> simp [ih]

theorem Stage.code_injective {a b : Stage} (h : a.code = b.code) : a = b := by
  cases a <;> cases b <;> simp_all [Stage.code]

theorem Stage.code_le_done (a : Stage) : a.code ≤ Stage.done.code := by cases a <;> decide

theorem Stage.inTransit_eq_false {a : Stage} : a.inTransit = false ↔ a = .waiting ∨ a = .done := by
  cases a <;> decide

namespace Part

/-- What a move does to the queue, to the use counts and to the ticket being sent. -/
inductive QueueMove (p q : Part) : Prop where
  /-- The queue stays. -/
  | stays (hq : q.tracker.queue = p.tracker.queue) (hu : ∀ n < 64, q.useCount n = p.useCount n)
      (hs : q.port.sending = p.port.sending ∨ q.port.sending = none ∨ ∃ x, q.port.sending = some x ∧
        (x.owner = .report → p.tracker.queue.head?.any (fun e => e.stage == .done) = true))
      (hl : q.sup.line = .halt → p.sup.line = .halt)
  /-- The oldest entry of a stage goes on to the next one. -/
  | sendsOn (a b : Stage) (f : Entry → Entry) (hf : Entry.SentTo b f) (hab : b.code = a.code + 1) (hb : b ≠ .done)
      (hw : a = .waiting → p.sup.line ≠ .halt)
      (hone : b ∈ [Stage.atPunch, .atDrill, .atGate] → p.hasStage b = false)
      (hq : q.tracker.queue = modifyFirst (fun e => e.stage == a) f p.tracker.queue)
      (hu : ∀ n < 64, q.useCount n = p.useCount n) (hs : q.port.sending = p.port.sending)
      (hl : q.sup.line = p.sup.line)
  /-- The oldest entry in DROPPING is DONE. -/
  | lands (o : Outcome) (e : Entry) (ho : p.oldest .dropping = some e)
      (hq : q.tracker.queue = modifyFirst (fun e => e.stage == .dropping) (Entry.finish o) p.tracker.queue)
      (hu : ∀ n < 64, q.useCount n = p.useCount n - if !e.isVoid && e.pattern == n then 1 else 0)
      (hs : q.port.sending = p.port.sending) (hl : q.sup.line = p.sup.line)
  /-- A new entry joins. -/
  | joins (e : Entry) (hlt : p.tracker.queue.length < 24) (he : e.stage = .waiting)
      (hq : q.tracker.queue = p.tracker.queue ++ [e])
      (hu : ∀ n < 64, q.useCount n = p.useCount n + if Entry.uses n e then 1 else 0) (hs : q.port.sending = p.port.sending)
      (hl : q.sup.line = p.sup.line)
  /-- The head entry leaves when its report has been sent. -/
  | leaves (x : Sending) (hx : p.port.sending = some x) (ho : x.owner = .report)
      (hq : q.tracker.queue = p.tracker.queue.tail) (hu : ∀ n < 64, q.useCount n = p.useCount n)
      (hs : q.port.sending = none) (hl : q.sup.line = p.sup.line)
  /-- An entry's fence mark becomes present. -/
  | marks (f : Entry → Entry) (hf : ∀ e, (f e).stage = e.stage ∧ ∀ n, Entry.uses n (f e) = Entry.uses n e)
      (hq : q.tracker.queue = p.tracker.queue.map f) (hu : ∀ n < 64, q.useCount n = p.useCount n)
      (hs : q.port.sending = p.port.sending) (hl : q.sup.line = p.sup.line)
  /-- Every entry of certain stages is DONE: in a halt and at a link reset those in transit among them, and at a
  RESUME that flushes, which is in HALT, the WAITING ones. -/
  | finishes (pick : Stage → Bool) (o : Outcome) (hd : pick .done = false)
      (ht : (∀ st : Stage, st.inTransit = true → pick st = true) ∨ (p.sup.line = .halt ∧ pick .waiting = true))
      (hq : q.tracker.queue = p.tracker.queue.map fun e => if pick e.stage then e.finish o else e)
      (hu : ∀ n < 64, q.useCount n =
        p.useCount n - p.tracker.queue.countP fun e => pick e.stage && !e.isVoid && e.pattern == n)
      (hs : q.port.sending = p.port.sending)

theorem newEntry_uses (t : Ticket) (f : SheetFields) (why : Option VoidReason) (p : Part) (n : Nat) :
    Entry.uses n (p.newEntry t f why) = decide (why = none ∧ n = f.pattern) := by
  cases why <;> simp [newEntry, Entry.uses, Entry.isVoid, beq_eq_decide, eq_comm (a := n)]

theorem pushEntry_joins (t : Ticket) (f : SheetFields) (why : Option VoidReason) {p q : Part}
    (hlt : p.tracker.queue.length < 24) (ht : q.tracker = p.tracker) (hu : ∀ n, q.useCount n = p.useCount n) (hs : q.port = p.port) (hl : q.sup = p.sup) :
    QueueMove p (q.pushEntry t f why) := by
  obtain ⟨hport, -, -, -, -, -, -, -, hsup⟩ := pushEntry_frame t f why q
  refine .joins (q.newEntry t f why) hlt rfl ?_ (fun n hn => ?_) (by rw [hport, hs]) (by rw [hsup, hl])
  · rw [pushEntry_tracker, ht]
  · rw [pushEntry_useCount t f why q hn, hu, newEntry_uses]
    simp

/-- A move that leaves the queue, the patterns, the port and the line alone. -/
theorem QueueMove.of_frame {p q : Part} (ht : q.tracker = p.tracker) (hp : q.patterns = p.patterns)
    (hs : q.port = p.port) (hl : q.sup = p.sup) : QueueMove p q :=
  .stays (by rw [ht]) (fun n _ => useCount_congr hp n) (.inl (by rw [hs])) (by rw [hl]; exact id)

theorem Move.queueMove {p q : Part} (h : Move p q) : QueueMove p q := by
  cases h with
  | alike h => exact .stays h.queue (fun n _ => h.useCount n) (h.sending.imp id .inl) h.halted
  | clock f hk hv => exact .of_frame rfl rfl rfl rfl
  | service f h => exact .of_frame rfl rfl rfl rfl
  | pattern n d h =>
    refine .stays (by simp) (fun m hm => ?_) (.inl (by simp)) (by simp)
    rw [useCount_setPattern, dif_pos hm]
    split <;> simp [useCount, hm]
  | run h => exact .stays rfl (fun _ _ => rfl) (.inl rfl) (by simp)
  | stop f hk hl =>
    refine .finishes Stage.inTransit .lost rfl (.inl fun _ => id) ?_ (fun n hn => ?_) (by simp)
    · rw [stopAll_tracker]
      simp
    · rw [stopAll_useCount _ hn]
      rfl
  | advance a b f hf hab hb hw hone =>
    exact .sendsOn a b f hf hab hb hw hone rfl (fun n _ => useCount_congr (by simp) n) (by simp) (by simp)
  | land l e ho =>
    obtain ⟨hport, -, -, -, -, -, hsup⟩ := finishLanding_frame l e p
    exact .lands _ e ho (by rw [finishLanding_tracker]; rfl) (fun n hn => finishLanding_useCount l e p hn)
      (by rw [hport]) (by rw [hsup])
  | push t f r hlt => exact pushEntry_joins t f _ hlt rfl (fun _ => rfl) rfl rfl
  | continues t f b hlt =>
    obtain ⟨hport, -, ht, hp, -, -, -, -, -, hsup⟩ := continueBook_frame f p
    exact pushEntry_joins t f _ hlt ht (useCount_congr hp) hport hsup
  | opens t f h hlt =>
    obtain ⟨hport, -, ht, hp, -, -, -, -, -, hsup⟩ := openBook_frame f h p
    exact pushEntry_joins t f _ hlt ht (useCount_congr hp) hport hsup
  | mark m =>
    unfold markEntry
    split
    · exact .of_frame rfl rfl rfl rfl
    · refine .marks _ (fun e => ?_) rfl (fun _ _ => rfl) rfl rfl
      split <;> exact ⟨rfl, fun _ => rfl⟩
  | freeHead x hs ho =>
    obtain ⟨hport, -, hp, -, -, -, -, -, hsup⟩ := freeHead_frame (p.onPort fun y => { y with sending := none })
    exact .leaves x hs ho (by rw [freeHead_tracker]; rfl) (fun n _ => useCount_congr hp n) (by rw [hport]; rfl)
      (by rw [hsup]; rfl)
  | freeRecord => exact .stays rfl (fun _ _ => rfl) (.inr (.inl rfl)) id
  | send x hr hb => exact .stays rfl (fun _ _ => rfl) (.inr (.inr ⟨x, rfl, hr⟩)) id
  | spoil n why lower => exact .of_frame (by simp) (by simp) (by simp) (by simp)
  | fail c => exact .of_frame (by simp) (by simp) (by simp) (by simp)
  | closerStep st w => exact .of_frame (by simp) (by simp) (by simp) (by simp)
  | take k => exact .of_frame (by simp) (by simp) (by simp) (by simp)
  | eject => exact .of_frame (by simp) (by simp) (by simp) (by simp)
  | dump => exact .of_frame (by simp) (by simp) (by simp) (by simp)
  | clear => exact .of_frame (by simp) (by simp) (by simp) (by simp)
  | grant k e b => exact .of_frame (by simp) (by simp) (by simp) (by simp)
  | amend b loops => exact .of_frame rfl rfl rfl rfl
  | flush h =>
    exact .finishes (fun st => st == .waiting) .flushed rfl (.inr ⟨h, rfl⟩) (by rw [finishAll_tracker])
      (fun n hn => useCount_finishAll _ _ p hn) (by simp)
  | linkReset =>
    exact .finishes (fun st => st != .done) .flushed rfl (.inl fun st h => by cases st <;> simp_all [Stage.inTransit])
      (by rw [linkReset_tracker]) (fun n hn => linkReset_useCount p hn) (by rw [linkReset_port])

/-! ### At most one entry at a station -/

theorem oneAtEach_move {p q : Part} (h : Move p q) (hp : p.OneAtEach) : q.OneAtEach := by
  intro st hst
  have hbefore := hp st hst
  cases h.queueMove with
  | stays hq => rwa [hq]
  | sendsOn a b f hf hab hb hw hone hq =>
    rw [hq]
    rcases modifyFirst_cases (fun e => e.stage == a) f p.tracker.queue with ⟨-, he⟩ | ⟨l, x, r, hqueue, -, hx, he⟩
    · rwa [he]
    · rw [he]
      obtain ⟨hstage, -⟩ := hf x
      rw [hqueue] at hbefore
      by_cases hbs : b = st
      · have hnone : p.tracker.queue.countP (fun e => e.stage == st) = 0 := by
          have hempty : p.hasStage st = false := hbs ▸ hone (hbs ▸ hst)
          simpa [hasStage, List.countP_eq_zero] using hempty
        rw [hqueue] at hnone
        simp only [List.countP_append, List.countP_cons, hstage, hbs] at hnone ⊢
        split <;> omega
      · simp only [List.countP_append, List.countP_cons, hstage, beq_iff_eq, hbs] at hbefore ⊢
        simp only [if_false]
        split at hbefore <;> omega
  | lands o e ho hq =>
    rw [hq]
    rcases modifyFirst_cases (fun e => e.stage == .dropping) (Entry.finish o) p.tracker.queue with
      ⟨-, he⟩ | ⟨l, x, r, hqueue, -, hx, he⟩
    · rwa [he]
    · rw [he]
      rw [hqueue] at hbefore
      have hdone : (Stage.done == st) = false := by simp at hst; rcases hst with rfl | rfl | rfl <;> rfl
      simp only [List.countP_append, List.countP_cons, Entry.finish, hdone] at hbefore ⊢
      split at hbefore <;> simp <;> omega
  | joins e hlt he hq =>
    rw [hq]
    have hwait : (Stage.waiting == st) = false := by simp at hst; rcases hst with rfl | rfl | rfl <;> rfl
    simpa [List.countP_append, List.countP_cons, he, hwait] using hbefore
  | leaves x hx ho hq =>
    rw [hq]
    exact (List.Sublist.countP_le (List.tail_sublist _)).trans hbefore
  | marks f hf hq =>
    rw [hq, List.countP_map]
    simpa [Function.comp_def, (hf _).1] using hbefore
  | finishes pick o hd ht hq =>
    rw [hq, List.countP_map]
    have hdone : (Stage.done == st) = false := by simp at hst; rcases hst with rfl | rfl | rfl <;> rfl
    refine (List.countP_mono_left fun e _ he => ?_).trans hbefore
    simp only [Function.comp_apply] at he
    split at he
    · simp [Entry.finish, hdone] at he
    · exact he

/-! ### The order of the stages -/

theorem pairwise_sendsOn {a b : Stage} {f : Entry → Entry} {l : List Entry}
    (hf : ∀ e, e.stage = a → (f e).stage = b) (hab : b.code = a.code + 1)
    (h : l.Pairwise fun x y => y.stage.code ≤ x.stage.code) :
    (modifyFirst (fun e => e.stage == a) f l).Pairwise fun x y => y.stage.code ≤ x.stage.code := by
  rcases modifyFirst_cases (fun e => e.stage == a) f l with ⟨-, he⟩ | ⟨l', x, r, rfl, hl, hx, he⟩
  · rwa [he]
  · rw [he]
    have hxa : x.stage = a := by simpa using hx
    have hstage : (f x).stage = b := hf x hxa
    rw [List.pairwise_append, List.pairwise_cons] at h ⊢
    obtain ⟨hpre, ⟨hxr, hr⟩, hcross⟩ := h
    refine ⟨hpre, ⟨fun y hy => ?_, hr⟩, fun y hy z hz => ?_⟩
    · have := hxr y hy
      rw [hxa] at this
      rw [hstage]
      omega
    · rcases List.mem_cons.1 hz with rfl | hz
      · have hle := hcross y hy x (by simp)
        have hne : y.stage.code ≠ a.code := fun hc => by simpa [Stage.code_injective hc] using hl y hy
        rw [hxa] at hle
        rw [hstage]
        omega
      · exact hcross y hy z (by simp [hz])

/-- In HALT no entry is in transit, so none is sent on. -/
theorem modifyFirst_in_halt {a b : Stage} {f : Entry → Entry} {p : Part} (hab : b.code = a.code + 1)
    (hw : a ≠ .waiting) (h : ∀ e ∈ p.tracker.queue, e.stage.inTransit = false) :
    modifyFirst (fun e => e.stage == a) f p.tracker.queue = p.tracker.queue := by
  rcases modifyFirst_cases (fun e => e.stage == a) f p.tracker.queue with ⟨-, he⟩ | ⟨l, x, r, hq, -, hx, -⟩
  · exact he
  · have hxa : x.stage = a := by simpa using hx
    rcases Stage.inTransit_eq_false.1 (h x (by simp [hq])) with hs | hs
    · exact absurd (hxa ▸ hs) hw
    · have := Stage.code_le_done b
      rw [← hxa, hs] at hab
      omega

theorem pairwise_finishes {pick : Stage → Bool} (o : Outcome) {p : Part}
    (ht : (∀ st : Stage, st.inTransit = true → pick st = true) ∨ (p.sup.line = .halt ∧ pick .waiting = true))
    (h : p.StagesInOrder) :
    (p.tracker.queue.map fun e => if pick e.stage then e.finish o else e).Pairwise
      fun x y => y.stage.code ≤ x.stage.code := by
  obtain ⟨horder, hhalt⟩ := h
  rw [List.pairwise_map]
  refine horder.imp_of_mem fun {x y} hx hy hxy => ?_
  have hstage (e : Entry) : (if pick e.stage = true then e.finish o else e).stage =
      if pick e.stage = true then .done else e.stage := by split <;> rfl
  rw [hstage, hstage]
  cases hpx : pick x.stage with
  | true => simpa using Stage.code_le_done _
  | false =>
    cases hpy : pick y.stage with
    | false => simpa using hxy
    | true =>
      have hx' : x.stage = .waiting ∨ x.stage = .done := by
        rcases ht with ht | ⟨hl, -⟩
        · exact Stage.inTransit_eq_false.1 (by by_contra hc; simp [ht _ (by simpa using hc)] at hpx)
        · exact Stage.inTransit_eq_false.1 (hhalt hl x hx)
      rcases hx' with hx' | hx'
      · have hy' : y.stage = .waiting := by
          rw [hx'] at hxy
          cases hs : y.stage <;> simp_all [Stage.code]
        simp_all
      · simp [hx']

theorem stagesInOrder_move {p q : Part} (h : Move p q) (hp : p.StagesInOrder) : q.StagesInOrder := by
  obtain ⟨horder, hhalt⟩ := hp
  cases h.queueMove with
  | stays hq hu hs hl => exact ⟨by rwa [hq], fun h => by rw [hq]; exact hhalt (hl h)⟩
  | sendsOn a b f hf hab hb hw hone hq hu hs hl =>
    refine ⟨by rw [hq]; exact pairwise_sendsOn (fun e _ => (hf e).1) hab horder, fun h => ?_⟩
    rw [hl] at h
    rw [hq, modifyFirst_in_halt hab (fun ha => hw ha h) (hhalt h)]
    exact hhalt h
  | lands o e ho hq hu hs hl =>
    refine ⟨by rw [hq]; exact pairwise_sendsOn (b := .done) (fun e _ => rfl) rfl horder, fun h => ?_⟩
    rw [hl] at h
    rw [hq, modifyFirst_in_halt (b := .done) rfl (by simp) (hhalt h)]
    exact hhalt h
  | joins e hlt he hq hu hs hl =>
    rw [StagesInOrder, hq, hl, List.pairwise_append]
    refine ⟨⟨horder, by simp, fun x _ y hy => ?_⟩, fun h x hx => ?_⟩
    · rw [List.mem_singleton.1 hy, he]
      cases x.stage <;> decide
    · rcases List.mem_append.1 hx with hx | hx
      · exact hhalt h x hx
      · rw [List.mem_singleton.1 hx, he]
        rfl
  | leaves x hx ho hq hu hs hl =>
    rw [StagesInOrder, hq, hl]
    exact ⟨horder.sublist (List.tail_sublist _), fun h e he => hhalt h e (List.mem_of_mem_tail he)⟩
  | marks f hf hq hu hs hl =>
    rw [StagesInOrder, hq, hl, List.pairwise_map]
    simp only [(hf _).1, List.forall_mem_map]
    exact ⟨horder, hhalt⟩
  | finishes pick o hd ht hq =>
    rw [StagesInOrder, hq]
    refine ⟨pairwise_finishes o ht ⟨horder, hhalt⟩, fun _ e he => ?_⟩
    obtain ⟨x, hx, rfl⟩ := List.mem_map.1 he
    split
    · rfl
    · next hn =>
      rcases ht with ht | ⟨hl, -⟩
      · by_contra hc
        exact hn (ht _ (by simpa using hc))
      · exact hhalt hl x hx

/-! ### Use counts -/

theorem Entry.uses_finish (o : Outcome) (e : Entry) (n : Nat) : Entry.uses n (e.finish o) = false := by
  simp [Entry.uses, Entry.finish]

/-- The head entry that is DONE stays so. -/
theorem head_done_modifyFirst {a : Stage} {f : Entry → Entry} {l : List Entry} (ha : a ≠ .done)
    (h : l.head?.any (fun e => e.stage == .done) = true) :
    (modifyFirst (fun e => e.stage == a) f l).head?.any (fun e => e.stage == .done) = true := by
  cases l with
  | nil => simp at h
  | cons e l =>
    have he : e.stage = .done := by simpa using h
    simp [modifyFirst, he, ha.symm]

/-- What holds of some entries that are not DONE counts less by those that become DONE. -/
theorem countP_live_finishes (pick : Stage → Bool) (o : Outcome) (hd : pick .done = false) (g : Entry → Bool)
    (l : List Entry) :
    l.countP (fun e => g e && e.stage != .done) =
      (l.map fun e => if pick e.stage then e.finish o else e).countP (fun e => g e && e.stage != .done) +
        l.countP fun e => pick e.stage && g e := by
  induction l with
  | nil => rfl
  | cons e l ih =>
    have hdone : ((e.finish o).stage != .done) = false := rfl
    simp only [List.map_cons, List.countP_cons, ih]
    cases hp : pick e.stage with
    | false =>
      simp only [Bool.false_eq_true, if_false, Bool.false_and]
      omega
    | true =>
      have hne : (e.stage != .done) = true := bne_iff_ne.2 fun hs => by simp [hs, hd] at hp
      simp only [if_true, hdone, hne, Bool.and_false, Bool.and_true, Bool.true_and, Bool.false_eq_true, if_false]
      omega

theorem countP_uses_finishes (pick : Stage → Bool) (o : Outcome) (hd : pick .done = false) (n : Nat) (l : List Entry) :
    (l.map fun e => if pick e.stage then e.finish o else e).countP (Entry.uses n) =
      l.countP (Entry.uses n) - l.countP fun e => pick e.stage && !e.isVoid && e.pattern == n := by
  have huses : Entry.uses n = fun e => (!e.isVoid && e.pattern == n) && e.stage != .done := by
    funext e
    simp only [Entry.uses, Bool.and_right_comm]
  have hassoc : (fun e : Entry => pick e.stage && !e.isVoid && e.pattern == n) =
      fun e => pick e.stage && (!e.isVoid && e.pattern == n) := by
    funext e
    rw [Bool.and_assoc]
  rw [huses, hassoc, countP_live_finishes pick o hd _ l, Nat.add_sub_cancel]

theorem useCountsExact_move {p q : Part} (h : Move p q) (hp : p.UseCountsExact) : q.UseCountsExact := by
  obtain ⟨hcount, hsend⟩ := hp
  cases h.queueMove with
  | stays hq hu hs =>
    refine ⟨fun n hn => by rw [hu n hn, hq, hcount n hn], fun hx => ?_⟩
    rw [hq]
    rcases hs with hs | hs | ⟨x, hs, hr⟩
    · exact hsend (by rwa [hs] at hx)
    · simp [hs] at hx
    · exact hr (by simpa [hs] using hx)
  | sendsOn a b f hf hab hb hw hone hq hu hs =>
    have ha : a ≠ .done := fun ha => by
      have := Stage.code_le_done b
      rw [hab, ha] at this
      omega
    refine ⟨fun n hn => ?_, fun hx => by rw [hq]; exact head_done_modifyFirst ha (hsend (by rwa [hs] at hx))⟩
    rw [hu n hn, hcount n hn, hq]
    rcases modifyFirst_cases (fun e => e.stage == a) f p.tracker.queue with ⟨-, he⟩ | ⟨l, x, r, hqueue, -, hx, he⟩
    · rw [he]
    · obtain ⟨hstage, hvoid, -, hpat⟩ := hf x
      have hxa : x.stage = a := by simpa using hx
      have huses : Entry.uses n (f x) = Entry.uses n x := by
        have hfd : (b != .done) = true := by simpa using hb
        have hxd : (a != .done) = true := by simpa using ha
        simp only [Entry.uses, Entry.isVoid, hstage, hvoid, hpat, hxa, hfd, hxd]
      rw [he, hqueue]
      simp only [List.countP_append, List.countP_cons, huses]
  | lands o e ho hq hu hs =>
    refine ⟨fun n hn => ?_, fun hx => by rw [hq]; exact head_done_modifyFirst (by simp) (hsend (by rwa [hs] at hx))⟩
    rw [hu n hn, hcount n hn, hq]
    rcases modifyFirst_cases (fun e => e.stage == .dropping) (Entry.finish o) p.tracker.queue with
      ⟨hn, -⟩ | ⟨l, x, r, hqueue, hl, hx, he⟩
    · have hmem := List.mem_of_find?_eq_some ho
      have hstage := List.find?_some ho
      simp [hn e hmem] at hstage
    · have hxs : x.stage = .dropping := by simpa using hx
      have hxe : e = x := by
        have := oldest_append hqueue (by simpa using hl) hxs
        rw [this] at ho
        exact (Option.some.inj ho).symm
      rw [he, hqueue, hxe]
      have huses : Entry.uses n x = (!x.isVoid && x.pattern == n) := by
        simp [Entry.uses, hxs, show (Stage.dropping != .done) = true from rfl]
      simp only [List.countP_append, List.countP_cons, Entry.uses_finish, huses, Bool.false_eq_true, if_false]
      omega
  | joins e hlt he hq hu hs =>
    refine ⟨fun n hn => ?_, fun hx => ?_⟩
    · rw [hu n hn, hcount n hn, hq, List.countP_append]
      simp [List.countP_cons]
    · rw [hq, List.head?_append]
      have hhead := hsend (by rwa [hs] at hx)
      cases hh : p.tracker.queue.head? with
      | none => simp [hh] at hhead
      | some y => simpa [hh] using hhead
  | leaves x hx ho hq hu hs =>
    have hhead := hsend (by simp [hx, ho])
    refine ⟨fun n hn => ?_, by simp [hs]⟩
    rw [hu n hn, hcount n hn, hq]
    cases hqueue : p.tracker.queue with
    | nil => rfl
    | cons e l =>
      have hdone : e.stage = .done := by simpa [hqueue] using hhead
      simp [Entry.uses, hdone]
  | marks f hf hq hu hs =>
    refine ⟨fun n hn => ?_, fun hx => ?_⟩
    · rw [hu n hn, hcount n hn, hq, List.countP_map]
      simp [Function.comp_def, (hf _).2]
    · rw [hq, List.head?_map]
      simpa [Option.any_map, Function.comp_def, (hf _).1] using hsend (by rwa [hs] at hx)
  | finishes pick o hd ht hq hu hs =>
    refine ⟨fun n hn => by rw [hu n hn, hcount n hn, hq, countP_uses_finishes pick o hd], fun hx => ?_⟩
    have hhead := hsend (by rwa [hs] at hx)
    rw [hq, List.head?_map]
    cases hh : p.tracker.queue.head? with
    | none => simp [hh] at hhead
    | some y =>
      have hy : y.stage = .done := by simpa [hh] using hhead
      simp [hd, hy]

theorem resetTo_queue (pins : BitVec 5) (b : Bool) (p : Part) : (p.resetTo pins b).tracker.queue = [] := rfl

end Part

/-- Settles O56: the order and the halt rule are kept together, and each kind of move keeps the counts at the
stations. -/
theorem stepKeepsQueueOrder : Obligations.StepKeepsQueueOrder := by
  refine fun _ _ hs => ⟨fun h => step_keeps (fun _ _ => Part.oneAtEach_move) (fun p pins b st _ => ?_) h hs,
    fun h => step_keeps (fun _ _ => Part.stagesInOrder_move) (fun p pins b => ?_) h hs⟩
  · rw [Part.resetTo_queue]
    exact Nat.zero_le 1
  · rw [Part.StagesInOrder, Part.resetTo_queue]
    exact ⟨.nil, by simp⟩

/-- Settles O57: a use count changes exactly where an entry that uses the pattern joins or becomes DONE. -/
theorem stepKeepsUseCounts : Obligations.StepKeepsUseCounts := by
  refine fun _ _ h hs => step_keeps (fun _ _ => Part.useCountsExact_move) (fun p pins b => ⟨fun n hn => ?_, ?_⟩) h hs
  · rw [Part.resetTo_queue]
    refine (Part.useCount_congr rfl n).trans (show Part.reset.useCount n = 0 from ?_)
    unfold Part.useCount
    interval_cases n <;> rfl
  · simp [Part.resetTo, Part.keepLevels, Part.reset]

end Sys2Proof.Machine
end

section
/-! SUPPORT. The book table's length and the link's places: what the moves do to the capacities. -/

namespace Sys2Proof.Machine

namespace Part

/-! ### The number of records -/

@[simp] theorem updateBook_length (n : Nat) (f : Book → Book) (p : Part) :
    (p.updateBook n f).books.records.length = p.books.records.length := by
  simp [updateBook]

@[simp] theorem endBook_length (n : Nat) (o : BookOutcome) (p : Part) :
    (p.endBook n o).books.records.length = p.books.records.length := by
  unfold endBook
  split
  · exact updateBook_length n _ p
  · rfl

@[simp] theorem endTest_length (n : Nat) (p : Part) :
    (p.endTest n).books.records.length = p.books.records.length := by
  unfold endTest
  repeat' split
  all_goals simp

@[simp] theorem spoil_length (n : Nat) (why : SpoilReason) (lower : Bool) (p : Part) :
    (p.spoil n why lower).books.records.length = p.books.records.length := by
  unfold spoil
  dsimp only
  repeat' split
  all_goals simp

@[simp] theorem giveUpPocket_length (k : PocketId) (n : Nat) (f : Book → Book) (p : Part) :
    (p.giveUpPocket k n f).books.records.length = p.books.records.length := by
  simp [giveUpPocket]

@[simp] theorem readyTest_length (n : Nat) (p : Part) :
    (p.readyTest n).books.records.length = p.books.records.length := by
  unfold readyTest makeReady
  dsimp only
  repeat' split
  all_goals simp

@[simp] theorem countDone_length (o : Outcome) (e : Entry) (p : Part) :
    (p.countDone o e).books.records.length = p.books.records.length := by
  unfold countDone
  split
  · rfl
  · cases o <;> simp

@[simp] theorem finishAll_length (pick : Entry → Bool) (o : Outcome) (p : Part) :
    (p.finishAll pick o).books.records.length = p.books.records.length := by
  unfold finishAll
  exact foldl_keeps _ (fun q : Part => q.books.records.length) (fun q e => countDone_length o e q) _ _

theorem haltCloser_length (p : Part) : p.haltCloser.books.records.length = p.books.records.length := by
  unfold haltCloser
  dsimp only
  repeat' split
  all_goals simp

theorem loseTransit_length (p : Part) : p.loseTransit.books.records.length = p.books.records.length := by
  unfold loseTransit
  exact (foldl_keeps _ (fun q : Part => q.books.records.length) (fun q (e : Entry) => spoil_length e.book _ _ q) _ _).trans
    (finishAll_length _ _ p)

theorem stopAll_length (p : Part) : p.stopAll.books.records.length = p.books.records.length := by
  unfold stopAll haltStations
  simp [loseTransit_length, haltCloser_length]

theorem linkReset_length (p : Part) : p.linkReset.books.records.length = p.books.records.length := by
  simp [linkReset, resetBooks, resetTracker, resetSup]

theorem freeHead_length (p : Part) : p.freeHead.books.records.length = p.books.records.length := by
  unfold freeHead
  dsimp only
  repeat' split
  all_goals simp

theorem continueBook_length (f : SheetFields) (p : Part) :
    (p.continueBook f).books.records.length = p.books.records.length := by
  simp [continueBook]

/-- Only an opening ticket adds a record, and it finds room (R28, R34). -/
theorem Move.records_length {p q : Part} (h : Move p q) :
    q.books.records.length ≤ p.books.records.length ∨ q.books.records.length ≤ 12 := by
  cases h with
  | alike h => exact .inl (by rw [h.books])
  | opens t f h hq hb hr =>
    obtain ⟨-, -, hb, -⟩ := pushEntry_frame t f none (p.openBook f h)
    refine .inr ?_
    rw [hb]
    simpa [openBook] using hr
  | push t f r =>
    obtain ⟨-, -, hb, -⟩ := pushEntry_frame t f (some r) p
    exact .inl (by rw [hb])
  | continues t f b =>
    obtain ⟨-, -, hb, -⟩ := pushEntry_frame t f none (p.continueBook f)
    exact .inl (by rw [hb, continueBook_length])
  | mark m => unfold markEntry; split <;> exact .inl le_rfl
  | freeHead => exact .inl (freeHead_length _).le
  | freeRecord =>
    refine .inl ?_
    simp only [Part.freeRecord, onBooks_fields]
    split
    · exact le_rfl
    · exact List.length_filter_le _ _
  | stop => exact .inl (stopAll_length _).le
  | linkReset => exact .inl (linkReset_length p).le
  | land l e ho =>
    rw [finishLanding_eq]
    exact .inl (by simp)
  | advance => exact .inl (by simp)
  | clock => exact .inl le_rfl
  | service => exact .inl le_rfl
  | pattern => exact .inl (by simp)
  | run => exact .inl le_rfl
  | send => exact .inl le_rfl
  | spoil => exact .inl (by simp)
  | fail =>
    unfold closerFails
    dsimp only
    repeat' split
    all_goals exact .inl (by simp)
  | closerStep => exact .inl (by simp)
  | take =>
    unfold Part.take takeBind takeDump
    dsimp only
    repeat' split
    all_goals exact .inl (by simp)
  | eject =>
    unfold ejectBound
    split <;> exact .inl (by simp)
  | dump =>
    unfold dumpEmptied
    split <;> exact .inl (by simp)
  | clear =>
    unfold clearCloser
    dsimp only
    repeat' split
    all_goals exact .inl (by simp)
  | grant => exact .inl (by simp [Part.grant])
  | amend => exact .inl (by simp [Part.amend])
  | flush => exact .inl (by simp)

/-! ### The link's places -/

/-- No move but those that the part's blocks cannot see touches the buffers of the link or the command list. -/
theorem Move.portsFit {p q : Part} (h : Move p q) (hp : p.PortsFit) : q.PortsFit := by
  have kept {q : Part} (hport : q.port = p.port) (hcmd : q.cmd = p.cmd) : q.PortsFit :=
    hp.congr (by rw [hport]) (by rw [hport]) (by rw [hport]) hcmd
  cases h with
  | alike h => exact h.ports hp
  | push t f r =>
    obtain ⟨hport, hcmd, -⟩ := pushEntry_frame t f (some r) p
    exact kept hport hcmd
  | continues t f b =>
    obtain ⟨hport, hcmd, -⟩ := pushEntry_frame t f none (p.continueBook f)
    obtain ⟨hport', hcmd', -⟩ := continueBook_frame f p
    exact kept (hport.trans hport') (hcmd.trans hcmd')
  | opens t f h =>
    obtain ⟨hport, hcmd, -⟩ := pushEntry_frame t f none (p.openBook f h)
    exact kept hport hcmd
  | land l e ho =>
    obtain ⟨hport, hcmd, -⟩ := finishLanding_frame l e p
    exact kept hport hcmd
  | mark m =>
    obtain ⟨hport, hcmd⟩ := markEntry_port m p
    exact kept hport hcmd
  | freeHead =>
    obtain ⟨hport, hcmd, -⟩ := freeHead_frame (p.onPort fun y => { y with sending := none })
    exact hp.congr (by rw [hport]) (by rw [hport]) (by rw [hport]) hcmd
  | freeRecord => exact hp.congr rfl rfl rfl rfl
  | send => exact hp.congr rfl rfl rfl rfl
  | linkReset => exact hp.congr (by rw [linkReset_port]) (by rw [linkReset_port]) (by rw [linkReset_port]) (by simp)
  | amend => exact kept rfl rfl
  | clock => exact kept rfl rfl
  | service => exact kept rfl rfl
  | run => exact kept rfl rfl
  | stop | advance | pattern | spoil | fail | closerStep | take | eject | dump | clear | grant | flush =>
    exact kept (by simp) (by simp)

theorem withinCapacity_move {p q : Part} (h : Move p q) (hp : p.WithinCapacity) : q.WithinCapacity := by
  obtain ⟨hqueue, hrecords, hports⟩ := hp
  refine ⟨?_, ?_, h.portsFit hports⟩
  · cases h.queueMove with
    | stays hq => rwa [hq]
    | sendsOn a b f _ _ _ _ _ hq => rwa [hq, modifyFirst_length]
    | lands o e ho hq => rwa [hq, modifyFirst_length]
    | joins e hlt he hq => simpa [hq] using hlt
    | leaves x hx ho hq => rw [hq, List.length_tail]; omega
    | marks f hf hq => rwa [hq, List.length_map]
    | finishes pick o hd ht hq => rwa [hq, List.length_map]
  · exact h.records_length.elim (fun h => h.trans hrecords) id

end Part

/-- Settles O55: what joins a list has found room in it. -/
theorem stepKeepsCapacity : Obligations.StepKeepsCapacity := fun _ _ h hs =>
  step_keeps (fun _ _ => Part.withinCapacity_move)
    (fun p pins b => by
      refine ⟨by rw [Part.resetTo_queue]; simp, ?_⟩
      refine ⟨?_, ?_⟩
      · simp [Part.resetTo, Part.keepLevels, Part.reset]
      · simp [Part.resetTo, Part.keepLevels, Part.reset, Part.placesOccupied, Part.slotsUsed]) h hs

end Sys2Proof.Machine
end

section
/-! SUPPORT. The books, the pockets and the request list, as one invariant without the closer's share; and what a change
of one record has to show. -/

namespace Sys2Proof.Machine

namespace Part

/-- The states in which a pocket stands in the request list (R39). -/
def waitsForCloser (st : PocketState) : Prop := st = .full ∨ st = .dumpWait

/-- The request list's clauses of `PocketsHeld`. -/
def Listed (p : Part) : Prop :=
  p.closer.requests.Nodup ∧ ∀ k, k ∈ p.closer.requests ↔ waitsForCloser (p.pocket k).state

/-- The end order names the ENDED records, each once (R44). -/
def EndOrdered (p : Part) : Prop :=
  p.books.endOrder.Nodup ∧ ∀ i, i ∈ p.books.endOrder ↔ ∃ b ∈ p.books.records, b.id = i ∧ b.state = .ended

/-- The record whose notice is being sent has no entry left in the queue. -/
def NoticeSound (p : Part) : Prop :=
  p.port.sending.any (fun x => x.owner == .bookDone) = true →
    ∃ i b, p.books.endOrder.head? = some i ∧ p.recordById? i = some b ∧ b.inQueue = 0

/-- The closer works on the pocket and the book that its state says (R101, R114). -/
def CloserAgrees (p : Part) : Prop :=
  (p.closer.state = .idle → p.closer.current = none) ∧
  (p.closer.state ≠ .idle → ∃ cur b, p.closer.current = some cur ∧ (p.pocket cur.pocket).book = some cur.book ∧
    p.book? cur.book = some b ∧
    (bindState p.closer.state = true → (p.pocket cur.pocket).state = .binding ∧ b.state = .closing) ∧
    (p.closer.state = .dump → (p.pocket cur.pocket).state = .dumping) ∧
    (p.closer.state = .fault → (p.pocket cur.pocket).state ∈ [PocketState.binding, .dumping] ∧ b.state = .spoiled))

/-- A record whose counts are sound and that agrees with the pockets. -/
structure Fits (p : Part) (b : Book) : Prop where
  sound : p.RecordSound b
  link : ∀ k, b.pocket = some k ↔ (p.pocket k).book = some b.number
  holder : ∀ k, b.pocket = some k → b.state ∈ holders (p.pocket k).state

/-- `PocketsHeld` and `BooksSound` without what the closer's state says. -/
structure Kept (p : Part) : Prop where
  numbers : (p.books.records.map Book.number).Nodup
  ids : (p.books.records.map Book.id).Nodup
  fresh : ∀ b ∈ p.books.records, b.id < p.tracker.nextId
  fits : ∀ b ∈ p.books.records, p.Fits b
  entry : ∀ e ∈ p.tracker.queue, e.isVoid = false → ∃ b ∈ p.books.records, b.number = e.book
  free : ∀ k, (p.pocket k).state = .free ↔ (p.pocket k).book = none
  holder : ∀ k n, (p.pocket k).book = some n → ∃ b ∈ p.books.records, b.number = n
  listed : p.Listed
  ends : p.EndOrdered
  notice : p.NoticeSound

/-! ### Finding records -/

/-- Where a key is unique, an item is found by its key. -/
theorem find?_key_iff {α β : Type} [BEq β] [LawfulBEq β] {f : α → β} {l : List α} (h : (l.map f).Nodup) {k : β} {a : α} :
    l.find? (fun x => f x == k) = some a ↔ a ∈ l ∧ f a = k := by
  refine ⟨fun ha => ⟨List.mem_of_find?_eq_some ha, by simpa using List.find?_some ha⟩, fun ⟨ha, hk⟩ => ?_⟩
  cases hx : l.find? (fun x => f x == k) with
  | none => simpa [hk] using List.find?_eq_none.1 hx a ha
  | some x =>
    have hfx : f x = k := by simpa using List.find?_some hx
    exact congrArg some (List.inj_on_of_nodup_map h (List.mem_of_find?_eq_some hx) ha (hfx.trans hk.symm))

theorem Kept.book?_iff {p : Part} (h : p.Kept) {n : Nat} {b : Book} :
    p.book? n = some b ↔ b ∈ p.books.records ∧ b.number = n := find?_key_iff h.numbers

theorem Kept.recordById?_iff {p : Part} (h : p.Kept) {i : Nat} {b : Book} :
    p.recordById? i = some b ↔ b ∈ p.books.records ∧ b.id = i := find?_key_iff h.ids

theorem Kept.same_number {p : Part} (h : p.Kept) {a b : Book} (ha : a ∈ p.books.records) (hb : b ∈ p.books.records)
    (hn : a.number = b.number) : a = b := List.inj_on_of_nodup_map h.numbers ha hb hn

theorem Kept.same_id {p : Part} (h : p.Kept) {a b : Book} (ha : a ∈ p.books.records) (hb : b ∈ p.books.records)
    (hn : a.id = b.id) : a = b := List.inj_on_of_nodup_map h.ids ha hb hn

/-- The record of the book that a pocket names holds that pocket. -/
theorem Kept.held {p : Part} (h : p.Kept) {k : PocketId} {n : Nat} (hk : (p.pocket k).book = some n) :
    ∃ b, p.book? n = some b ∧ b ∈ p.books.records ∧ b.number = n ∧ b.pocket = some k ∧
      b.state ∈ holders (p.pocket k).state := by
  obtain ⟨b, hb, rfl⟩ := h.holder k n hk
  have hpocket := ((h.fits b hb).link k).2 hk
  exact ⟨b, h.book?_iff.2 ⟨hb, rfl⟩, hb, rfl, hpocket, (h.fits b hb).holder k hpocket⟩

/-! ### The invariant and the two claims -/

theorem kept_of_claims {p : Part} (hp : p.PocketsHeld) (hb : p.BooksSound) : p.Kept ∧ p.CloserAgrees := by
  obtain ⟨hnum, hfree, hhold, hlink, hnodup, hmem⟩ := hp
  obtain ⟨hsound, hentry, hids, hfresh, hend, hended, hinEnd, hnotice, hidle, hbusy⟩ := hb
  refine ⟨⟨hnum, hids, hfresh, fun b hb => ⟨hsound b hb, hlink b hb, fun k hk => ?_⟩, fun e he hv => ?_, hfree,
    fun k n hk => ?_, ⟨hnodup, hmem⟩, ⟨hend, fun i => ⟨fun hi => ?_, ?_⟩⟩, hnotice⟩, hidle, hbusy⟩
  · obtain ⟨x, hx, hn, hs⟩ := hhold k _ ((hlink b hb k).1 hk)
    have hxb : x = b := List.inj_on_of_nodup_map hnum hx hb hn
    rwa [hxb] at hs
  · obtain ⟨b, hb⟩ := Option.isSome_iff_exists.1 (hentry e he hv)
    exact ⟨b, List.mem_of_find?_eq_some hb, book?_number hb⟩
  · obtain ⟨b, hb, hn, -⟩ := hhold k n hk
    exact ⟨b, hb, hn⟩
  · obtain ⟨b, hb, hi, hs⟩ := hended i hi
    exact ⟨b, hb, hi, hs⟩
  · rintro ⟨b, hb, rfl, hs⟩
    exact hinEnd b hb hs

theorem claims_of_kept {p : Part} (h : p.Kept) (hc : p.CloserAgrees) : p.PocketsHeld ∧ p.BooksSound := by
  refine ⟨⟨h.numbers, h.free, fun k n hk => ?_, fun b hb => (h.fits b hb).link, h.listed.1, h.listed.2⟩,
    fun b hb => (h.fits b hb).sound, fun e he hv => ?_, h.ids, h.fresh, h.ends.1, fun i hi => ?_, fun b hb hs => ?_,
    h.notice, hc.1, hc.2⟩
  · obtain ⟨b, -, hb, hn, -, hs⟩ := h.held hk
    exact ⟨b, hb, hn, hs⟩
  · obtain ⟨b, hb, hn⟩ := h.entry e he hv
    rw [h.book?_iff.2 ⟨hb, hn⟩]
    rfl
  · obtain ⟨b, hb, hi, hs⟩ := (h.ends.2 i).1 hi
    exact ⟨b, hb, hi, hs⟩
  · exact (h.ends.2 b.id).2 ⟨b, hb, rfl, hs⟩

/-! ### The request list -/

theorem Listed.congr {p q : Part} (h : p.Listed) (hr : q.closer.requests = p.closer.requests)
    (hs : ∀ k, waitsForCloser (q.pocket k).state ↔ waitsForCloser (p.pocket k).state) : q.Listed :=
  ⟨by rw [hr]; exact h.1, fun k => by rw [hr, hs]; exact h.2 k⟩

/-- A pocket joins the list, at either end. -/
theorem Listed.join {p q : Part} {k : PocketId} (h : p.Listed) (hr : q.closer.requests.Perm (k :: p.closer.requests))
    (hk : ¬ waitsForCloser (p.pocket k).state) (hk' : waitsForCloser (q.pocket k).state)
    (hs : ∀ j ≠ k, q.pocket j = p.pocket j) : q.Listed := by
  refine ⟨hr.nodup_iff.2 (List.nodup_cons.2 ⟨fun hm => hk ((h.2 k).1 hm), h.1⟩), fun j => ?_⟩
  rw [hr.mem_iff, List.mem_cons]
  by_cases hj : j = k
  · simp [hj, hk']
  · simp [hj, h.2, hs j hj]

/-- The pocket at the head leaves the list. -/
theorem Listed.leave {p q : Part} {k : PocketId} (h : p.Listed) (hr : p.closer.requests = k :: q.closer.requests)
    (hk : ¬ waitsForCloser (q.pocket k).state) (hs : ∀ j ≠ k, q.pocket j = p.pocket j) : q.Listed := by
  obtain ⟨hnodup, hmem⟩ := h
  rw [hr, List.nodup_cons] at hnodup
  refine ⟨hnodup.2, fun j => ?_⟩
  by_cases hj : j = k
  · subst hj
    exact ⟨fun hm => absurd hm hnodup.1, fun hw => absurd hw hk⟩
  · rw [hs j hj, ← hmem j, hr, List.mem_cons]
    simp [hj]

/-! ### Records that change in place -/

theorem recordById?_map {p q : Part} {f : Book → Book} (hrec : q.books.records = p.books.records.map f)
    (hid : ∀ b, (f b).id = b.id) (i : Nat) : q.recordById? i = (p.recordById? i).map f := by
  unfold recordById?
  rw [hrec, List.find?_map]
  simp only [Function.comp_def, hid]

theorem book?_map {p q : Part} {f : Book → Book} (hrec : q.books.records = p.books.records.map f)
    (hnum : ∀ b, (f b).number = b.number) (n : Nat) : q.book? n = (p.book? n).map f := by
  unfold book?
  rw [hrec, List.find?_map]
  simp only [Function.comp_def, hnum]

theorem NoticeSound.map {p q : Part} (h : p.NoticeSound) {f : Book → Book}
    (hrec : q.books.records = p.books.records.map f) (hid : ∀ b, (f b).id = b.id)
    (hqueue : ∀ i b, i ∈ p.books.endOrder → p.recordById? i = some b → b.inQueue = 0 → (f b).inQueue = 0)
    (hend : ∀ i, p.books.endOrder.head? = some i → q.books.endOrder.head? = some i)
    (hs : q.port.sending = p.port.sending ∨ q.port.sending = none) : q.NoticeSound := by
  intro hq
  rcases hs with hs | hs
  · obtain ⟨i, b, hi, hb, h0⟩ := h (by rwa [hs] at hq)
    have hmem : i ∈ p.books.endOrder := List.mem_of_mem_head? hi
    exact ⟨i, f b, hend i hi, by rw [recordById?_map hrec hid, hb]; rfl, hqueue i b hmem hb h0⟩
  · simp [hs] at hq

theorem EndOrdered.map {p q : Part} (h : p.EndOrdered) {f : Book → Book}
    (hrec : q.books.records = p.books.records.map f) (hid : ∀ b, (f b).id = b.id)
    (hstate : ∀ b ∈ p.books.records, (f b).state = .ended ↔ b.state = .ended)
    (hend : q.books.endOrder = p.books.endOrder) : q.EndOrdered := by
  refine ⟨by rw [hend]; exact h.1, fun i => ?_⟩
  rw [hend, h.2, hrec]
  simp only [List.mem_map]
  constructor
  · rintro ⟨b, hb, hi, hs⟩
    exact ⟨f b, ⟨b, hb, rfl⟩, by rw [hid, hi], (hstate b hb).2 hs⟩
  · rintro ⟨_, ⟨b, hb, rfl⟩, hi, hs⟩
    exact ⟨b, hb, by rw [← hi, hid], (hstate b hb).1 hs⟩

/-- Every record changes by one function. -/
theorem Kept.map {p q : Part} (hp : p.Kept) {f : Book → Book} (hrec : q.books.records = p.books.records.map f)
    (hid : ∀ b, (f b).number = b.number ∧ (f b).id = b.id) (hnext : p.tracker.nextId ≤ q.tracker.nextId)
    (hfits : ∀ b ∈ p.books.records, q.Fits (f b))
    (hentry : ∀ e ∈ q.tracker.queue, e.isVoid = false → ∃ b ∈ p.books.records, b.number = e.book)
    (hfree : ∀ k, (q.pocket k).state = .free ↔ (q.pocket k).book = none)
    (hholder : ∀ k n, (q.pocket k).book = some n → ∃ b ∈ p.books.records, b.number = n)
    (hlisted : q.Listed) (hends : q.EndOrdered) (hnotice : q.NoticeSound) : q.Kept := by
  have hkept {n : Nat} (h : ∃ b ∈ p.books.records, b.number = n) : ∃ b ∈ q.books.records, b.number = n := by
    obtain ⟨b, hb, hn⟩ := h
    exact ⟨f b, by rw [hrec]; exact List.mem_map_of_mem hb, by rw [(hid b).1, hn]⟩
  refine ⟨?_, ?_, ?_, ?_, fun e he hv => hkept (hentry e he hv), hfree, fun k n hk => hkept (hholder k n hk), hlisted,
    hends, hnotice⟩
  · rw [hrec, List.map_map]
    simpa [Function.comp_def, (hid _).1] using hp.numbers
  · rw [hrec, List.map_map]
    simpa [Function.comp_def, (hid _).2] using hp.ids
  · rw [hrec]
    intro b hb
    obtain ⟨x, hx, rfl⟩ := List.mem_map.1 hb
    rw [(hid x).2]
    exact (hp.fresh x hx).trans_le hnext
  · rw [hrec]
    intro b hb
    obtain ⟨x, hx, rfl⟩ := List.mem_map.1 hb
    exact hfits x hx

/-! ### One record changes -/

/-- A pocket is as it was, or belonged and belongs to no book but `n`. -/
def PocketLocal (n : Nat) (p q : Part) : Prop :=
  ∀ k, q.pocket k = p.pocket k ∨
    (∀ m, (p.pocket k).book = some m → m = n) ∧ (∀ m, (q.pocket k).book = some m → m = n) ∧
    ((q.pocket k).state = .free ↔ (q.pocket k).book = none)

theorem PocketLocal.of_eq {n : Nat} {p q : Part} (h : ∀ k, q.pocket k = p.pocket k) : PocketLocal n p q :=
  fun k => .inl (h k)

theorem RecordSound.congr {p q : Part} {b : Book} (ho : q.openOf b.number = p.openOf b.number)
    (hi : q.inQueueOf b.number = p.inQueueOf b.number) (h : p.RecordSound b) : q.RecordSound b := by
  unfold RecordSound at h ⊢
  rwa [ho, hi]

theorem Fits.other {n : Nat} {p q : Part} {b : Book} (h : p.Fits b) (hn : b.number ≠ n) (hpocket : PocketLocal n p q)
    (ho : q.openOf b.number = p.openOf b.number) (hi : q.inQueueOf b.number = p.inQueueOf b.number) : q.Fits b := by
  have hsame (k : PocketId) : (q.pocket k).book = some b.number ↔ (p.pocket k).book = some b.number := by
    rcases hpocket k with hk | ⟨hp, hq, -⟩
    · rw [hk]
    · exact ⟨fun h => absurd (hq _ h) hn, fun h => absurd (hp _ h) hn⟩
  refine ⟨h.sound.congr ho hi, fun k => (h.link k).trans (hsame k).symm, fun k hk => ?_⟩
  rcases hpocket k with hk' | ⟨hp, -, -⟩
  · rw [hk']; exact h.holder k hk
  · exact absurd (hp _ ((h.link k).1 hk)) hn

theorem PocketLocal.free {n : Nat} {p q : Part} (h : PocketLocal n p q)
    (hp : ∀ k, (p.pocket k).state = .free ↔ (p.pocket k).book = none) (k : PocketId) :
    (q.pocket k).state = .free ↔ (q.pocket k).book = none := by
  rcases h k with hk | ⟨-, -, hf⟩
  · rw [hk]; exact hp k
  · exact hf

/-- One record changes, by a change that keeps its number and its serial number. -/
theorem Kept.update {p q : Part} {n : Nat} {b : Book} (hp : p.Kept) (hb : p.book? n = some b) {g : Book → Book}
    (hg : ∀ x, (g x).number = x.number ∧ (g x).id = x.id)
    (hrec : q.books.records = p.books.records.map fun x => if x.number = n then g x else x)
    (hnext : p.tracker.nextId ≤ q.tracker.nextId) (hpocket : PocketLocal n p q)
    (hopen : ∀ m ≠ n, q.openOf m = p.openOf m ∧ q.inQueueOf m = p.inQueueOf m) (hfit : q.Fits (g b))
    (hentry : ∀ e ∈ q.tracker.queue, e.isVoid = false →
      e.book = n ∨ ∃ x ∈ p.tracker.queue, x.isVoid = false ∧ x.book = e.book)
    (hlisted : q.Listed) (hends : q.EndOrdered) (hnotice : q.NoticeSound) : q.Kept := by
  obtain ⟨hmem, hnum⟩ := hp.book?_iff.1 hb
  refine hp.map hrec (fun x => by split <;> simp [hg]) hnext (fun x hx => ?_) (fun e he hv => ?_)
    (hpocket.free hp.free) (fun k m hk => ?_) hlisted hends hnotice
  · by_cases hxn : x.number = n
    · rw [if_pos hxn, hp.same_number hx hmem (hxn.trans hnum.symm)]
      exact hfit
    · rw [if_neg hxn]
      obtain ⟨ho, hi⟩ := hopen x.number hxn
      exact (hp.fits x hx).other hxn hpocket ho hi
  · rcases hentry e he hv with he | ⟨x, hx, hxv, hxe⟩
    · exact ⟨b, hmem, hnum.trans he.symm⟩
    · exact hxe ▸ hp.entry x hx hxv
  · rcases hpocket k with hk' | ⟨-, hq, -⟩
    · rw [hk'] at hk
      exact hp.holder k m hk
    · exact ⟨b, hmem, hnum.trans (hq m hk).symm⟩

/-- One record that is not ENDED changes while the queue and the port stay; where it ends, it joins the end order. -/
theorem Kept.change {p q : Part} {n : Nat} {b : Book} (hp : p.Kept) (hb : p.book? n = some b) {g : Book → Book}
    (hg : ∀ x, (g x).number = x.number ∧ (g x).id = x.id ∧ (g x).inQueue = x.inQueue)
    (hrec : q.books.records = p.books.records.map fun x => if x.number = n then g x else x)
    (hne : b.state ≠ .ended)
    (hend : q.books.endOrder = p.books.endOrder ++ if (g b).state = .ended then [b.id] else [])
    (ht : q.tracker = p.tracker) (hport : q.port = p.port) (hpocket : PocketLocal n p q)
    (hsound : p.RecordSound (g b)) (hlink : ∀ k, (g b).pocket = some k ↔ (q.pocket k).book = some n)
    (hholder : ∀ k, (g b).pocket = some k → (g b).state ∈ holders (q.pocket k).state) (hlisted : q.Listed) : q.Kept := by
  obtain ⟨hmem, hnum⟩ := hp.book?_iff.1 hb
  have hcount (m : Nat) : q.openOf m = p.openOf m ∧ q.inQueueOf m = p.inQueueOf m := by
    simp only [openOf, inQueueOf, ht, and_self]
  have hid (x : Book) : (if x.number = n then g x else x).id = x.id := by split <;> simp [hg]
  refine hp.update hb (fun x => ⟨(hg x).1, (hg x).2.1⟩) hrec (by rw [ht]) hpocket (fun m _ => hcount m)
    ⟨hsound.congr (hcount _).1 (hcount _).2, by rw [(hg b).1, hnum]; exact hlink, hholder⟩
    (fun e he hv => .inr ⟨e, by rwa [ht] at he, hv, rfl⟩) hlisted ?_ ?_
  · by_cases hs : (g b).state = .ended
    · rw [if_pos hs] at hend
      have hnot : b.id ∉ p.books.endOrder := fun hi => by
        obtain ⟨x, hx, hxi, hxs⟩ := (hp.ends.2 b.id).1 hi
        exact hne (hp.same_id hx hmem hxi ▸ hxs)
      have hnodup : (p.books.endOrder ++ [b.id]).Nodup :=
        List.nodup_append.2 ⟨hp.ends.1, by simp, fun a ha c hc h => hnot (by
          rw [← List.mem_singleton.1 hc, ← h]
          exact ha)⟩
      refine ⟨by rwa [hend], fun i => ?_⟩
      rw [hend, List.mem_append, hp.ends.2, List.mem_singleton, hrec]
      simp only [List.mem_map]
      constructor
      · rintro (⟨x, hx, hi, hxs⟩ | rfl)
        · have hxn : x.number ≠ n := fun h => hne (hp.same_number hx hmem (h.trans hnum.symm) ▸ hxs)
          exact ⟨x, ⟨x, hx, by rw [if_neg hxn]⟩, hi, hxs⟩
        · exact ⟨g b, ⟨b, hmem, by rw [if_pos hnum]⟩, (hg b).2.1, hs⟩
      · rintro ⟨_, ⟨x, hx, rfl⟩, hi, hxs⟩
        by_cases hxn : x.number = n
        · rw [if_pos hxn] at hi
          right
          rw [← hi, (hg x).2.1, hp.same_number hx hmem (hxn.trans hnum.symm)]
        · rw [if_neg hxn] at hi hxs
          exact .inl ⟨x, hx, hi, hxs⟩
    · rw [if_neg hs, List.append_nil] at hend
      refine hp.ends.map hrec hid (fun x hx => ?_) hend
      by_cases hxn : x.number = n
      · rw [if_pos hxn, hp.same_number hx hmem (hxn.trans hnum.symm)]
        exact ⟨fun h => absurd h hs, fun h => absurd h hne⟩
      · rw [if_neg hxn]
  · refine hp.notice.map hrec hid (fun i x _ _ h0 => ?_) (fun i hi => ?_) (.inl (by rw [hport]))
    · split
      · rw [(hg x).2.2, h0]
      · exact h0
    · rw [hend, List.head?_append, hi]
      rfl

/-- The queue changes and the records stay: as many entries of each book as before, and no more of them to come. -/
theorem Kept.queue {p q : Part} (hp : p.Kept) (hb : q.books.records = p.books.records)
    (he : q.books.endOrder = p.books.endOrder) (hnext : p.tracker.nextId ≤ q.tracker.nextId)
    (hport : q.port.sending = p.port.sending ∨ q.port.sending = none) (hpocket : ∀ k, q.pocket k = p.pocket k)
    (hr : q.closer.requests = p.closer.requests) (hopen : ∀ n, q.openOf n ≤ p.openOf n)
    (hin : ∀ n, q.inQueueOf n = p.inQueueOf n)
    (hentry : ∀ e ∈ q.tracker.queue, e.isVoid = false → ∃ x ∈ p.tracker.queue, x.isVoid = false ∧ x.book = e.book) :
    q.Kept := by
  have hid : q.books.records = p.books.records.map id := by rw [hb, List.map_id]
  have hfits (b : Book) (hb : b ∈ p.books.records) : q.Fits b := by
    obtain ⟨⟨hsum, hae, hmax, hqueue, hopened, hadm, hgat, hend, hrest⟩, hlink, hhold⟩ := hp.fits b hb
    have hle := hopen b.number
    refine ⟨⟨by omega, hae, hmax, by rw [hqueue, hin], hopened, hadm, hgat, fun h => ?_, hrest⟩, ?_, ?_⟩
    · have := hend h
      omega
    · simpa only [hpocket] using hlink
    · simpa only [hpocket] using hhold
  refine hp.map hid (fun _ => ⟨rfl, rfl⟩) hnext hfits (fun e he hv => ?_) (by simpa only [hpocket] using hp.free)
    (by simpa only [hpocket] using hp.holder) (hp.listed.congr hr fun k => by rw [hpocket])
    (hp.ends.map hid (fun _ => rfl) (fun _ _ => Iff.rfl) he)
    (hp.notice.map hid (fun _ => rfl) (fun _ _ _ _ => id) (by rw [he]; exact fun _ => id) hport)
  obtain ⟨x, hx, hxv, hxe⟩ := hentry e he hv
  exact hxe ▸ hp.entry x hx hxv

/-- Nothing that the claims see changes. -/
theorem Kept.same {p q : Part} (hp : p.Kept) (hb : q.books.records = p.books.records)
    (he : q.books.endOrder = p.books.endOrder) (hq : q.tracker.queue = p.tracker.queue)
    (hnext : q.tracker.nextId = p.tracker.nextId)
    (hport : q.port.sending = p.port.sending ∨ q.port.sending = none)
    (hpocket : ∀ k, q.pocket k = p.pocket k) (hr : q.closer.requests = p.closer.requests) : q.Kept :=
  hp.queue hb he hnext.ge hport hpocket hr (fun n => by simp only [openOf, hq, le_refl])
    (fun n => by simp only [inQueueOf, hq]) fun e he hv => ⟨e, hq ▸ he, hv, rfl⟩

end Part

end Sys2Proof.Machine
end

section
/-! SUPPORT. The operations on one record and its pocket keep the books, the pockets and the request list in
agreement. -/

namespace Sys2Proof.Machine

/-- A record that a spoil takes (R40). -/
def Book.spoiledBy (why : SpoilReason) (lower : Bool) (b : Book) : Book :=
  if lower then { b.enter .spoiled with spoilReason := some why, expected := b.admitted }
  else { b.enter .spoiled with spoilReason := some why }

/-- A record whose expected count a source lowers (R40). -/
def Book.lowered (lower : Bool) (b : Book) : Book := if lower then { b with expected := b.admitted } else b

theorem Book.lowered_fields (lower : Bool) (b : Book) :
    (Book.lowered lower b).number = b.number ∧ (Book.lowered lower b).id = b.id ∧
    (Book.lowered lower b).inQueue = b.inQueue ∧ (Book.lowered lower b).pocket = b.pocket := by
  unfold Book.lowered
  split <;> exact ⟨rfl, rfl, rfl, rfl⟩

theorem Book.lowered_state (lower : Bool) (b : Book) : (Book.lowered lower b).state = b.state := by
  unfold Book.lowered
  split <;> rfl

/-- A record that ends (R42, R43). -/
def Book.endedWith (o : BookOutcome) (b : Book) : Book := { b.enter .ended with outcome := some o }

namespace Part

/-! ### Pockets and requests after the operations -/

theorem pocket_congr {p q : Part} (ha : q.closer.pocketA = p.closer.pocketA) (hb : q.closer.pocketB = p.closer.pocketB)
    (k : PocketId) : q.pocket k = p.pocket k := by cases k <;> assumption

@[simp] theorem pocket_updateBook (n : Nat) (f : Book → Book) (k : PocketId) (p : Part) :
    (p.updateBook n f).pocket k = p.pocket k := rfl

@[simp] theorem pocket_joinRequests (j k : PocketId) (p : Part) : (p.joinRequests j).pocket k = p.pocket k := by
  cases k <;> rfl

@[simp] theorem pocket_dropStaged (i : Nat) (k : PocketId) (p : Part) : (p.dropStaged i).pocket k = p.pocket k := by
  refine pocket_congr ?_ ?_ k
  all_goals
    simp only [dropStaged, onCloser_fields]
    repeat' split
    all_goals rfl

@[simp] theorem requests_dropStaged (i : Nat) (p : Part) : (p.dropStaged i).closer.requests = p.closer.requests := by
  simp only [dropStaged, onCloser_fields]
  repeat' split
  all_goals rfl

@[simp] theorem pocket_dropActive (i : Nat) (k : PocketId) (p : Part) : (p.dropActive i).pocket k = p.pocket k := by
  refine pocket_congr ?_ ?_ k
  all_goals
    simp only [dropActive, onCloser_fields]
    repeat' split
    all_goals rfl

@[simp] theorem requests_dropActive (i : Nat) (p : Part) : (p.dropActive i).closer.requests = p.closer.requests := by
  simp only [dropActive, onCloser_fields]
  repeat' split
  all_goals rfl

@[simp] theorem pocket_loadActive (b : Book) (k : PocketId) (p : Part) : (p.loadActive b).pocket k = p.pocket k := by
  refine pocket_congr ?_ ?_ k
  all_goals
    simp only [loadActive, onCloser_fields]
    repeat' split
    all_goals rfl

@[simp] theorem requests_loadActive (b : Book) (p : Part) : (p.loadActive b).closer.requests = p.closer.requests := by
  simp only [loadActive, onCloser_fields]
  repeat' split
  all_goals rfl

@[simp] theorem pocket_enterCloser (st : CloserState) (w : CloserWindows → Nat) (k : PocketId) (p : Part) :
    (p.enterCloser st w).pocket k = p.pocket k := by cases k <;> rfl

@[simp] theorem pocket_idleCloser (k : PocketId) (p : Part) : p.idleCloser.pocket k = p.pocket k := by cases k <;> rfl

@[simp] theorem requests_setPocket (k : PocketId) (x : Pocket) (p : Part) :
    (p.setPocket k x).closer.requests = p.closer.requests := by cases k <;> rfl

@[simp] theorem requests_movePocket (k : PocketId) (st : PocketState) (p : Part) :
    (p.movePocket k st).closer.requests = p.closer.requests := requests_setPocket k _ p

/-! ### Kinds of change -/

/-- The record changes and its pocket stays. -/
theorem Kept.changeRecord {p q : Part} {n : Nat} {b : Book} (hp : p.Kept) (hb : p.book? n = some b) {g : Book → Book}
    (hg : ∀ x, (g x).number = x.number ∧ (g x).id = x.id ∧ (g x).inQueue = x.inQueue ∧ (g x).pocket = x.pocket)
    (hrec : q.books.records = p.books.records.map fun x => if x.number = n then g x else x) (hne : b.state ≠ .ended)
    (hend : q.books.endOrder = p.books.endOrder ++ if (g b).state = .ended then [b.id] else [])
    (ht : q.tracker = p.tracker) (hport : q.port = p.port) (hpocket : ∀ k, q.pocket k = p.pocket k)
    (hsound : p.RecordSound (g b))
    (hholder : ∀ k, b.pocket = some k → (g b).state ∈ holders (p.pocket k).state)
    (hr : q.closer.requests = p.closer.requests) : q.Kept := by
  obtain ⟨hmem, hnum⟩ := hp.book?_iff.1 hb
  obtain ⟨-, -, -, hgp⟩ := hg b
  refine hp.change hb (fun x => ⟨(hg x).1, (hg x).2.1, (hg x).2.2.1⟩) hrec hne hend ht hport (.of_eq hpocket) hsound
    (fun k => ?_) (fun k hk => ?_) (hp.listed.congr hr fun k => by rw [hpocket])
  · rw [hgp, hpocket, (hp.fits b hmem).link, hnum]
  · rw [hpocket]
    exact hholder k (hgp ▸ hk)

/-- The record changes and its pocket changes its state. -/
theorem Kept.changeMoved {p q : Part} {n : Nat} {b : Book} {k : PocketId} {st : PocketState} (hp : p.Kept)
    (hb : p.book? n = some b) (hk : b.pocket = some k) {g : Book → Book}
    (hg : ∀ x, (g x).number = x.number ∧ (g x).id = x.id ∧ (g x).inQueue = x.inQueue ∧ (g x).pocket = x.pocket)
    (hrec : q.books.records = p.books.records.map fun x => if x.number = n then g x else x) (hne : b.state ≠ .ended)
    (hne' : (g b).state ≠ .ended) (hend : q.books.endOrder = p.books.endOrder) (ht : q.tracker = p.tracker)
    (hport : q.port = p.port)
    (hpocket : ∀ j, q.pocket j = if j = k then { p.pocket k with state := st } else p.pocket j)
    (hst : (g b).state ∈ holders st) (hsound : p.RecordSound (g b)) (hlisted : q.Listed) : q.Kept := by
  obtain ⟨hmem, hnum⟩ := hp.book?_iff.1 hb
  obtain ⟨-, -, -, hgp⟩ := hg b
  have hlink := (hp.fits b hmem).link
  have hbook (j : PocketId) : (q.pocket j).book = (p.pocket j).book := by
    rw [hpocket]
    split
    · next hj => rw [hj]
    · rfl
  have hown : (p.pocket k).book = some n := by rw [← hnum]; exact (hlink k).1 hk
  have hfree : st ≠ .free := fun h => by simp [h, holders] at hst
  refine hp.change hb (fun x => ⟨(hg x).1, (hg x).2.1, (hg x).2.2.1⟩) hrec hne (by simp [hend, hne']) ht hport
    (fun j => ?_) hsound (fun j => ?_) (fun j hj => ?_) hlisted
  · by_cases hj : j = k
    · refine .inr ⟨?_, ?_, ?_⟩
      · rw [hj, hown]; exact fun m hm => (Option.some.inj hm).symm
      · rw [hbook, hj, hown]; exact fun m hm => (Option.some.inj hm).symm
      · rw [hbook, hpocket, if_pos hj, hj, hown]
        simp [hfree]
    · exact .inl (by rw [hpocket, if_neg hj])
  · rw [hgp, hbook, hlink, hnum]
  · have hjk : j = k := Option.some.inj ((hgp ▸ hj).symm.trans hk)
    rwa [hpocket, if_pos hjk]

/-- The record gives its pocket up. -/
theorem Kept.changeFreed {p q : Part} {n : Nat} {b : Book} {k : PocketId} (hp : p.Kept) (hb : p.book? n = some b)
    (hk : b.pocket = some k) {g : Book → Book}
    (hg : ∀ x, (g x).number = x.number ∧ (g x).id = x.id ∧ (g x).inQueue = x.inQueue ∧ (g x).pocket = none)
    (hrec : q.books.records = p.books.records.map fun x => if x.number = n then g x else x) (hne : b.state ≠ .ended)
    (hend : q.books.endOrder = p.books.endOrder ++ if (g b).state = .ended then [b.id] else [])
    (ht : q.tracker = p.tracker) (hport : q.port = p.port)
    (hpocket : ∀ j, q.pocket j = if j = k then ⟨.free, none⟩ else p.pocket j)
    (hr : q.closer.requests = p.closer.requests) (hw : ¬ waitsForCloser (p.pocket k).state)
    (hsound : p.RecordSound (g b)) : q.Kept := by
  obtain ⟨hmem, hnum⟩ := hp.book?_iff.1 hb
  obtain ⟨-, -, -, hgp⟩ := hg b
  have hlink := (hp.fits b hmem).link
  have hown : (p.pocket k).book = some n := by rw [← hnum]; exact (hlink k).1 hk
  refine hp.change hb (fun x => ⟨(hg x).1, (hg x).2.1, (hg x).2.2.1⟩) hrec hne hend ht hport
    (fun j => ?_) hsound (fun j => ?_) (fun j hj => by simp [hgp] at hj) (hp.listed.congr hr fun j => ?_)
  · by_cases hj : j = k
    · refine .inr ⟨?_, ?_, ?_⟩
      · rw [hj, hown]; exact fun m hm => (Option.some.inj hm).symm
      · rw [hpocket, if_pos hj]; simp
      · rw [hpocket, if_pos hj]; simp
    · exact .inl (by rw [hpocket, if_neg hj])
  · rw [hgp, hpocket]
    by_cases hj : j = k
    · simp [hj]
    · rw [if_neg hj, ← hnum, ← hlink, hk]
      simp [Ne.symm hj]
  · rw [hpocket]
    split
    · next hj => simpa [hj, waitsForCloser] using hw
    · rfl

/-! ### The end test -/

theorem endBook_eq {n : Nat} {p : Part} {b : Book} (o : BookOutcome) (h : p.book? n = some b) :
    p.endBook n o = (p.updateBook n (Book.endedWith o)).onBooks fun t => { t with endOrder := t.endOrder ++ [b.id] } := by
  unfold endBook
  rw [h]
  rfl

theorem Book.mayEnd_iff {b : Book} :
    b.mayEnd = true ↔ b.state = .spoiled ∧ b.admitted = b.expected ∧ b.inQueue = 0 ∧ b.pocket = none := by
  simp [Book.mayEnd, and_assoc]

/-- A book without entries in the queue has none to come. -/
theorem openOf_le_inQueueOf (n : Nat) (p : Part) : p.openOf n ≤ p.inQueueOf n := by
  refine List.countP_mono_left fun e _ he => ?_
  simp only [Bool.and_eq_true] at he ⊢
  exact ⟨he.1.1, he.2⟩

theorem Kept.endTest {p : Part} (hp : p.Kept) (n : Nat) : (p.endTest n).Kept := by
  unfold Part.endTest
  split
  · next b hb =>
    split
    · next hm =>
      obtain ⟨hs, ha, hi, hpk⟩ := Book.mayEnd_iff.1 hm
      obtain ⟨hmem, hnum⟩ := hp.book?_iff.1 hb
      rw [endBook_eq _ hb]
      refine hp.changeRecord hb (g := Book.endedWith .spoiled) (fun _ => ⟨rfl, rfl, rfl, rfl⟩) rfl (by simp [hs]) rfl rfl
        rfl (fun _ => rfl) ?_ (by simp [hpk]) rfl
      obtain ⟨hsum, hae, hmax, hqueue, -, -, -, -, hout, hspoil⟩ := (hp.fits b hmem).sound
      have hnone : b.outcome = none := by simpa [hs] using hout
      have hopen : p.openOf b.number = 0 := by
        have := openOf_le_inQueueOf b.number p
        omega
      refine ⟨hsum, hae, hmax, hqueue, ?_, fun _ => ha, ?_, fun _ => hopen, ?_, ?_⟩
      all_goals simp [Book.endedWith, Book.enter]
      simpa [hs, hnone] using hspoil
    · exact hp
  · exact hp

/-! ### A spoil -/

/-- What a spoil of a book in OPEN, FILLED or READY does before the end test. -/
def takeSpoiled (n : Nat) (why : SpoilReason) (lower : Bool) (b : Book) (p : Part) : Part :=
  (match b.pocket with
    | some k => (p.updateBook n (Book.spoiledBy why lower)).spoilPocket k
    | none => p.updateBook n (Book.spoiledBy why lower)).dropStaged b.id

theorem spoil_fresh_eq {n : Nat} {p : Part} {b : Book} (why : SpoilReason) (lower : Bool) (hb : p.book? n = some b)
    (hs : b.state = .opened ∨ b.state = .filled ∨ b.state = .ready) :
    p.spoil n why lower = (p.takeSpoiled n why lower b).endTest n := by
  have hbook : (Book.spoiledBy why lower) = fun b : Book =>
      if lower then { { b.enter .spoiled with spoilReason := some why } with expected := b.admitted }
      else { b.enter .spoiled with spoilReason := some why } := rfl
  unfold spoil takeSpoiled
  rw [hb, hbook]
  rcases hs with hs | hs | hs <;> simp only [hs] <;> rfl

theorem spoil_spoiled_eq {n : Nat} {p : Part} {b : Book} (why : SpoilReason) (lower : Bool) (hb : p.book? n = some b)
    (hs : b.state = .spoiled) :
    p.spoil n why lower =
      (p.updateBook n (Book.lowered lower)).endTest n := by
  unfold spoil
  rw [hb]
  simp only [hs]
  rfl

theorem spoil_closing_eq {n : Nat} {p : Part} {b : Book} (why : SpoilReason) (lower : Bool) (hb : p.book? n = some b)
    (hs : b.state = .closing) :
    p.spoil n why lower =
      if why = .closerFault ∨ why = .lineHalt then (p.updateBook n (Book.spoiledBy why false)).endTest n else p := by
  unfold spoil
  rw [hb]
  simp only [hs]
  rfl

theorem spoil_ended_eq {n : Nat} {p : Part} {b : Book} (why : SpoilReason) (lower : Bool) (hb : p.book? n = some b)
    (hs : b.state = .ended) : p.spoil n why lower = p := by
  unfold spoil
  rw [hb]
  simp only [hs]

theorem spoil_none {n : Nat} {p : Part} (why : SpoilReason) (lower : Bool) (hb : p.book? n = none) :
    p.spoil n why lower = p := by
  unfold spoil
  rw [hb]

theorem Book.spoiledBy_fields (why : SpoilReason) (lower : Bool) (b : Book) :
    (Book.spoiledBy why lower b).number = b.number ∧ (Book.spoiledBy why lower b).id = b.id ∧
    (Book.spoiledBy why lower b).inQueue = b.inQueue ∧ (Book.spoiledBy why lower b).pocket = b.pocket := by
  unfold Book.spoiledBy
  split <;> exact ⟨rfl, rfl, rfl, rfl⟩

theorem Book.spoiledBy_state (why : SpoilReason) (lower : Bool) (b : Book) :
    (Book.spoiledBy why lower b).state = .spoiled := by
  unfold Book.spoiledBy
  split <;> rfl

theorem RecordSound.spoiledBy {p : Part} {b : Book} (why : SpoilReason) (lower : Bool) (h : p.RecordSound b)
    (hs : b.state ≠ .ended) : p.RecordSound (Book.spoiledBy why lower b) := by
  obtain ⟨hsum, hae, hmax, hqueue, -, -, -, -, hout, -⟩ := h
  have hnone : b.outcome = none := by simpa [hs] using hout
  cases lower
  · refine ⟨hsum, hae, hmax, hqueue, ?_⟩
    simp [Book.spoiledBy, Book.enter, hnone]
  · refine ⟨hsum, le_rfl, hae.trans hmax, hqueue, ?_⟩
    simp [Book.spoiledBy, Book.enter, hnone]

/-- The pocket of a book in OPEN, FILLED or READY is GATHERING or FULL (R37). -/
theorem Kept.fresh_pocket {p : Part} (hp : p.Kept) {n : Nat} {b : Book} (hb : p.book? n = some b) {k : PocketId}
    (hk : b.pocket = some k) (hs : b.state = .opened ∨ b.state = .filled ∨ b.state = .ready) :
    (p.pocket k).state = .gathering ∨ (p.pocket k).state = .full := by
  have hhold := (hp.fits b (hp.book?_iff.1 hb).1).holder k hk
  cases h : (p.pocket k).state <;> rcases hs with hs | hs | hs <;> simp [h, hs, holders] at hhold <;> simp

theorem spoilPocket_gathering {k : PocketId} {p : Part} (h : (p.pocket k).state = .gathering) :
    p.spoilPocket k = (p.movePocket k .dumpWait).joinRequests k := by
  unfold spoilPocket
  rw [h]

theorem spoilPocket_full {k : PocketId} {p : Part} (h : (p.pocket k).state = .full) :
    p.spoilPocket k = p.movePocket k .dumpWait := by
  unfold spoilPocket
  rw [h]

theorem Kept.takeSpoiled {p : Part} (hp : p.Kept) {n : Nat} {b : Book} (why : SpoilReason) (lower : Bool)
    (hb : p.book? n = some b) (hs : b.state = .opened ∨ b.state = .filled ∨ b.state = .ready) :
    (p.takeSpoiled n why lower b).Kept := by
  have hne : b.state ≠ .ended := by rcases hs with hs | hs | hs <;> simp [hs]
  have hspoiled := Book.spoiledBy_state why lower b
  have hsound := ((hp.fits b (hp.book?_iff.1 hb).1).sound).spoiledBy why lower hne
  unfold Part.takeSpoiled
  cases hk : b.pocket with
  | none =>
    exact hp.changeRecord hb (Book.spoiledBy_fields why lower) (by simp [updateBook]) hne
      (by simp [updateBook, hspoiled]) (by simp) (by simp) (by simp) hsound (by simp [hk]) (by simp)
  | some k =>
    dsimp only
    rcases hp.fresh_pocket hb hk hs with hst | hst
    · rw [spoilPocket_gathering (by simpa using hst)]
      refine hp.changeMoved (st := .dumpWait) hb hk (Book.spoiledBy_fields why lower) (by simp [updateBook]) hne
        (by simp [hspoiled]) (by simp [updateBook]) (by simp) (by simp) (by simp [pocket_movePocket])
        (by simp [hspoiled, holders]) hsound ?_
      refine hp.listed.join (k := k) ?_ (by simp [hst, waitsForCloser])
        (by simp [pocket_movePocket, waitsForCloser]) (fun j hj => by simp [pocket_movePocket, hj])
      simp [joinRequests]
    · rw [spoilPocket_full (by simpa using hst)]
      refine hp.changeMoved (st := .dumpWait) hb hk (Book.spoiledBy_fields why lower) (by simp [updateBook]) hne
        (by simp [hspoiled]) (by simp [updateBook]) (by simp) (by simp) (by simp [pocket_movePocket])
        (by simp [hspoiled, holders]) hsound (hp.listed.congr (by simp) fun j => ?_)
      by_cases hj : j = k
      · simp [hj, pocket_movePocket, waitsForCloser, hst]
      · simp [hj, pocket_movePocket]

theorem Kept.spoil {p : Part} (hp : p.Kept) (n : Nat) (why : SpoilReason) (lower : Bool) :
    (p.spoil n why lower).Kept := by
  cases hb : p.book? n with
  | none => rwa [spoil_none why lower hb]
  | some b =>
    obtain ⟨hmem, hnum⟩ := hp.book?_iff.1 hb
    have hfit := hp.fits b hmem
    have fresh (hs : b.state = .opened ∨ b.state = .filled ∨ b.state = .ready) : (p.spoil n why lower).Kept := by
      rw [spoil_fresh_eq why lower hb hs]
      exact (hp.takeSpoiled why lower hb hs).endTest n
    cases hs : b.state with
    | opened => exact fresh (.inl hs)
    | filled => exact fresh (.inr (.inl hs))
    | ready => exact fresh (.inr (.inr hs))
    | closing =>
      rw [spoil_closing_eq why lower hb hs]
      split
      · refine Kept.endTest (p := p.updateBook n (Book.spoiledBy why false)) (hp.changeRecord hb
          (Book.spoiledBy_fields why false) rfl (by simp [hs]) (by simp [updateBook, Book.spoiledBy_state]) rfl rfl
          (fun _ => rfl) (hfit.sound.spoiledBy why false (by simp [hs])) (fun k hk => ?_) rfl) n
        have hhold := hfit.holder k hk
        rw [Book.spoiledBy_state]
        cases hst : (p.pocket k).state <;> simp [hst, hs, holders] at hhold ⊢
      · exact hp
    | spoiled =>
      rw [spoil_spoiled_eq why lower hb hs]
      refine Kept.endTest (p := p.updateBook n (Book.lowered lower)) (hp.changeRecord hb (Book.lowered_fields lower) rfl
        (by simp [hs]) (by simp [updateBook, Book.lowered_state, hs]) rfl rfl (fun _ => rfl) ?_ (fun k hk => ?_) rfl) n
      · obtain ⟨hsum, hae, hmax, hqueue, -, -, -, hend, hout, hspoil⟩ := hfit.sound
        cases lower
        · exact hfit.sound
        · refine ⟨hsum, le_rfl, hae.trans hmax, hqueue, ?_, ?_, ?_, hend, hout, hspoil⟩
          all_goals simp [Book.lowered, hs]
      · rw [Book.lowered_state]
        exact hfit.holder k hk
    | ended => rwa [spoil_ended_eq why lower hb hs]

/-! ### A book becomes READY -/

theorem makeReady_books {n : Nat} {p : Part} {b : Book} (hb : p.book? n = some b) :
    (p.makeReady n).books = (p.updateBook n (Book.enter .ready)).books := by
  unfold makeReady
  rw [hb]
  dsimp only
  repeat' split
  all_goals simp

theorem makeReady_pocket {n : Nat} {p : Part} {b : Book} (hb : p.book? n = some b) (j : PocketId) :
    (p.makeReady n).pocket j = if b.pocket = some j then { p.pocket j with state := .full } else p.pocket j := by
  unfold makeReady
  rw [hb]
  dsimp only
  cases hk : b.pocket with
  | none =>
    dsimp only
    split
    · rfl
    · refine pocket_congr ?_ ?_ j
      all_goals
        simp only [onCloser_fields]
        split <;> rfl
  | some k =>
    have hmoved : ((p.updateBook n (Book.enter .ready)).movePocket k .full |>.joinRequests k).pocket j =
        if some k = some j then { p.pocket j with state := .full } else p.pocket j := by
      rw [pocket_joinRequests, pocket_movePocket]
      by_cases hj : j = k
      · simp [hj]
      · simp [hj, Ne.symm hj]
    dsimp only
    split
    · exact hmoved
    · refine (pocket_congr ?_ ?_ j).trans hmoved
      all_goals
        simp only [onCloser_fields]
        split <;> rfl

theorem makeReady_requests {n : Nat} {p : Part} {b : Book} (hb : p.book? n = some b) :
    (p.makeReady n).closer.requests = p.closer.requests ++ b.pocket.toList := by
  unfold makeReady
  rw [hb]
  dsimp only
  cases hk : b.pocket with
  | none =>
    dsimp only
    split
    · simp
    · simp only [onCloser_fields]
      split <;> simp
  | some k =>
    dsimp only
    split
    · simp [joinRequests]
    · simp only [onCloser_fields]
      split <;> simp [joinRequests]

theorem Kept.makeReady {p : Part} (hp : p.Kept) {n : Nat} {b : Book} (hb : p.book? n = some b) (hs : b.state = .filled)
    (hg : b.gathered = b.expected) : (p.makeReady n).Kept := by
  obtain ⟨hmem, hnum⟩ := hp.book?_iff.1 hb
  have hfit := hp.fits b hmem
  have hready : p.RecordSound (Book.enter .ready b) := by
    obtain ⟨hsum, hae, hmax, hqueue, -, hadm, -, -, hout, hspoil⟩ := hfit.sound
    have hadm' : b.admitted = b.expected := hadm (by simp [hs])
    refine ⟨hsum, hae, hmax, hqueue, ?_, ?_, ?_, ?_, ?_, ?_⟩
    all_goals simp_all [Book.enter]
  have hrec : (p.makeReady n).books.records =
      p.books.records.map fun x => if x.number = n then Book.enter .ready x else x := by rw [makeReady_books hb]; rfl
  have hend : (p.makeReady n).books.endOrder = p.books.endOrder := by rw [makeReady_books hb]; rfl
  cases hk : b.pocket with
  | none =>
    exact hp.changeRecord hb (g := Book.enter .ready) (fun _ => ⟨rfl, rfl, rfl, rfl⟩) hrec (by simp [hs])
      (by simp [hend, Book.enter]) (by simp)
      (by simp) (fun j => by simp [makeReady_pocket hb, hk]) hready (by simp [hk])
      (by simp [makeReady_requests hb, hk])
  | some k =>
    have hgather : (p.pocket k).state = .gathering := by
      have hhold := hfit.holder k hk
      cases h : (p.pocket k).state <;> simp [h, hs, holders] at hhold
      rfl
    have hpocket (j : PocketId) : (p.makeReady n).pocket j =
        if j = k then { p.pocket k with state := .full } else p.pocket j := by
      rw [makeReady_pocket hb, hk]
      by_cases hj : j = k
      · simp [hj]
      · simp [hj, Ne.symm hj]
    refine hp.changeMoved hb hk (g := Book.enter .ready) (fun _ => ⟨rfl, rfl, rfl, rfl⟩) hrec (by simp [hs])
      (by simp [Book.enter]) hend (by simp) (by simp) hpocket (by simp [Book.enter, holders]) hready ?_
    refine hp.listed.join (k := k) ?_ (by simp [hgather, waitsForCloser]) (by simp [hpocket, waitsForCloser])
      (fun j hj => by simp [hpocket, hj])
    rw [makeReady_requests hb, hk]
    exact List.perm_append_singleton k p.closer.requests

theorem Kept.readyTest {p : Part} (hp : p.Kept) (n : Nat) : (p.readyTest n).Kept := by
  unfold Part.readyTest
  split
  · next b hb =>
    split
    · next h => exact hp.makeReady hb h.1 h.2
    · exact hp
  · exact hp

end Part

end Sys2Proof.Machine
end

section
/-! SUPPORT. The closer's operations keep the books and the pockets in agreement, and the closer agrees with them. -/

namespace Sys2Proof.Machine

namespace Part

/-! ### What the closer works on -/

theorem CloserAgrees.of_idle {p : Part} (h : p.closer.state = .idle) (hc : p.closer.current = none) :
    p.CloserAgrees := ⟨fun _ => hc, fun hn => absurd h hn⟩

/-- What the closer holds while it is not IDLE. -/
theorem CloserAgrees.working {p : Part} (h : p.CloserAgrees) (hn : p.closer.state ≠ .idle) :
    ∃ cur b, p.closer.current = some cur ∧ (p.pocket cur.pocket).book = some cur.book ∧ p.book? cur.book = some b ∧
      (p.pocket cur.pocket).state ∈ [PocketState.binding, .dumping] := by
  obtain ⟨cur, b, hcur, hbook, hb, hbind, hdump, hfault⟩ := h.2 hn
  refine ⟨cur, b, hcur, hbook, hb, ?_⟩
  cases hs : p.closer.state
  case idle => exact absurd hs hn
  case dump => simp [hdump hs]
  case fault => exact (hfault hs).1
  all_goals simp [(hbind (by rw [hs]; rfl)).1]

/-- The closer's work is left alone: its state and pocket, and the state of a book whose pocket it has. -/
theorem CloserAgrees.congr {p q : Part} (h : p.CloserAgrees) (hs : q.closer.state = p.closer.state)
    (hc : q.closer.current = p.closer.current)
    (hpocket : ∀ k, (p.pocket k).state ∈ [PocketState.binding, .dumping] → q.pocket k = p.pocket k)
    (hbook : ∀ k n b, (p.pocket k).state ∈ [PocketState.binding, .dumping] → (p.pocket k).book = some n →
      p.book? n = some b → ∃ c, q.book? n = some c ∧ c.state = b.state) : q.CloserAgrees := by
  refine ⟨fun hi => hc.trans (h.1 (hs ▸ hi)), fun hn => ?_⟩
  rw [hs] at hn
  obtain ⟨cur, b, hcur, hown, hb, hbind, hdump, hfault⟩ := h.2 hn
  obtain ⟨cur', b', hcur', -, -, hst⟩ := h.working hn
  have hsame : cur' = cur := Option.some.inj (hcur'.symm.trans hcur)
  rw [hsame] at hst
  obtain ⟨c, hc', hcs⟩ := hbook cur.pocket cur.book b hst hown hb
  refine ⟨cur, c, hc.trans hcur, ?_, hc', ?_, ?_, ?_⟩
  all_goals rw [hpocket _ hst]
  · exact hown
  · rw [hs, hcs]; exact hbind
  · rw [hs]; exact hdump
  · rw [hs, hcs]; exact hfault

/-- The records and the pockets stay, and so do the closer's state and its current pocket. -/
theorem CloserAgrees.same {p q : Part} (h : p.CloserAgrees) (hs : q.closer.state = p.closer.state)
    (hc : q.closer.current = p.closer.current) (hpocket : ∀ k, q.pocket k = p.pocket k)
    (hb : q.books.records = p.books.records) : q.CloserAgrees :=
  h.congr hs hc (fun k _ => hpocket k) fun _ _ b _ _ hb' => ⟨b, by unfold book? at hb' ⊢; rwa [hb], rfl⟩

/-! ### A take -/

@[simp] theorem pocket_current (x : Option Current) (k : PocketId) (p : Part) :
    (p.onCloser fun c => { c with current := x }).pocket k = p.pocket k := by cases k <;> rfl

@[simp] theorem pocket_requests (f : Closer → List PocketId) (k : PocketId) (p : Part) :
    (p.onCloser fun c => { c with requests := f c }).pocket k = p.pocket k := by cases k <;> rfl

theorem takeable_spec {k : PocketId} {p : Part} (h : p.takeable = some k) :
    p.closer.state = .idle ∧ ∃ rest, p.closer.requests = k :: rest := by
  unfold takeable at h
  split at h
  · next hc =>
    refine ⟨hc.1, ?_⟩
    split at h
    · next j rest hr =>
      split at h
      · cases h
      · cases h; exact ⟨rest, hr⟩
    · cases h
  · cases h

theorem take_eq {k : PocketId} {n : Nat} {b : Book} {p : Part} (hk : (p.pocket k).book = some n)
    (hb : p.book? n = some b) :
    ((p.pocket k).state = .full →
      p.take k = (p.onCloser fun c => { c with requests := c.requests.tail }).takeBind k b) ∧
    ((p.pocket k).state = .dumpWait →
      p.take k = (p.onCloser fun c => { c with requests := c.requests.tail }).takeDump k b) := by
  unfold take
  rw [hk, Option.bind_some, hb]
  dsimp only
  constructor <;> intro h <;> rw [h]

theorem takeBind_pocket (k j : PocketId) (b : Book) (p : Part) :
    (p.takeBind k b).pocket j = if j = k then { p.pocket k with state := .binding } else p.pocket j := by
  simp [takeBind, pocket_movePocket]

theorem takeDump_pocket (k j : PocketId) (b : Book) (p : Part) :
    (p.takeDump k b).pocket j = if j = k then { p.pocket k with state := .dumping } else p.pocket j := by
  simp [takeDump, pocket_movePocket]

theorem takeBind_closer (k : PocketId) (b : Book) (p : Part) :
    (p.takeBind k b).closer.state = .clamp ∧ (p.takeBind k b).closer.current = some ⟨k, b.number⟩ ∧
    (p.takeBind k b).closer.requests = p.closer.requests := by
  refine ⟨rfl, rfl, ?_⟩
  unfold takeBind enterCloser
  simp

theorem takeDump_closer (k : PocketId) (b : Book) (p : Part) :
    (p.takeDump k b).closer.state = .dump ∧ (p.takeDump k b).closer.current = some ⟨k, b.number⟩ ∧
    (p.takeDump k b).closer.requests = p.closer.requests := by
  refine ⟨rfl, rfl, ?_⟩
  unfold takeDump enterCloser
  simp

theorem kept_take {p : Part} (hp : p.Kept) {k : PocketId} (h : p.takeable = some k) :
    (p.take k).Kept ∧ (p.take k).CloserAgrees := by
  obtain ⟨-, rest, hr⟩ := takeable_spec h
  have hwait : waitsForCloser (p.pocket k).state := (hp.listed.2 k).1 (by simp [hr])
  have hown : ∃ n, (p.pocket k).book = some n := by
    refine Option.ne_none_iff_exists'.1 fun hn => ?_
    have := (hp.free k).2 hn
    simp [waitsForCloser, this] at hwait
  obtain ⟨n, hn⟩ := hown
  obtain ⟨b, hb, hmem, hnum, hpocket, hhold⟩ := hp.held hn
  have hfit := hp.fits b hmem
  obtain ⟨hfull, hdump⟩ := take_eq hn hb
  rcases hwait with hst | hst
  · have hs : b.state = .ready := by simpa [hst, holders] using hhold
    obtain ⟨hsum, hae, hmax, hqueue, -, hadm, hgat, -, hout, hspoil⟩ := hfit.sound
    have hsound : p.RecordSound (Book.enter .closing b) := by
      refine ⟨hsum, hae, hmax, hqueue, ?_⟩
      simp_all [Book.enter]
    rw [hfull hst]
    generalize hq : (p.onCloser fun c => { c with requests := c.requests.tail }) = q
    have hqp (j : PocketId) : q.pocket j = p.pocket j := by rw [← hq, pocket_requests]
    obtain ⟨hst', hcur, hreq⟩ := takeBind_closer k b q
    have hrec : (q.takeBind k b).books.records =
        p.books.records.map fun x => if x.number = n then Book.enter .closing x else x := by
      rw [← hq, ← hnum]; simp [takeBind, updateBook]
    have hlisted : (q.takeBind k b).Listed := by
      refine hp.listed.leave (k := k) ?_ (by simp [takeBind_pocket, waitsForCloser])
        (fun j hj => by rw [takeBind_pocket, if_neg hj, hqp])
      rw [hreq, ← hq, hr]
      simp [hr]
    refine ⟨hp.changeMoved hb hpocket (st := .binding) (g := Book.enter .closing) (fun _ => ⟨rfl, rfl, rfl, rfl⟩) hrec
      (by simp [hs]) (by simp [Book.enter]) (by rw [← hq]; simp [takeBind, updateBook]) (by rw [← hq]; simp)
      (by rw [← hq]; simp) (fun j => by rw [takeBind_pocket, hqp, hqp]) (by simp [Book.enter, holders]) hsound hlisted,
      by simp [hst'], fun _ => ⟨_, Book.enter .closing b, hcur, ?_, ?_, ?_, ?_, ?_⟩⟩
    · rw [takeBind_pocket, if_pos rfl, hqp, hn, hnum]
    · rw [book?_map hrec (fun x => by split <;> rfl), hnum, hb]
      simp [hnum]
    · exact fun _ => ⟨by rw [takeBind_pocket, if_pos rfl], rfl⟩
    all_goals simp [hst']
  · have hs : b.state = .spoiled := by simpa [hst, holders] using hhold
    rw [hdump hst]
    generalize hq : (p.onCloser fun c => { c with requests := c.requests.tail }) = q
    have hqp (j : PocketId) : q.pocket j = p.pocket j := by rw [← hq, pocket_requests]
    obtain ⟨hst', hcur, hreq⟩ := takeDump_closer k b q
    have hrec : (q.takeDump k b).books.records = p.books.records := by rw [← hq]; simp [takeDump]
    have hlisted : (q.takeDump k b).Listed := by
      refine hp.listed.leave (k := k) ?_ (by simp [takeDump_pocket, waitsForCloser])
        (fun j hj => by rw [takeDump_pocket, if_neg hj, hqp])
      rw [hreq, ← hq, hr]
      simp [hr]
    refine ⟨hp.changeMoved hb hpocket (st := .dumping) (g := id) (fun _ => ⟨rfl, rfl, rfl, rfl⟩) (by simp [hrec])
      (by simp [hs]) (by simp [hs]) (by rw [← hq]; simp [takeDump]) (by rw [← hq]; simp)
      (by rw [← hq]; simp) (fun j => by rw [takeDump_pocket, hqp, hqp]) (by simp [hs, holders]) hfit.sound hlisted,
      by simp [hst'], fun _ => ⟨_, b, hcur, ?_, ?_, ?_, ?_, ?_⟩⟩
    · rw [takeDump_pocket, if_pos rfl, hqp, hn, hnum]
    · unfold book? at hb ⊢
      rw [hrec, hnum, hb]
    · simp [hst', bindState]
    · exact fun _ => by rw [takeDump_pocket, if_pos rfl]
    · simp [hst']

/-! ### The end of a cycle -/

theorem idleCloser_closer (p : Part) : p.idleCloser.closer.state = .idle ∧ p.idleCloser.closer.current = none ∧
    p.idleCloser.closer.requests = p.closer.requests := ⟨rfl, rfl, rfl⟩

theorem kept_idleCloser {p : Part} (hp : p.Kept) : p.idleCloser.Kept ∧ p.idleCloser.CloserAgrees :=
  ⟨hp.same rfl rfl rfl rfl (.inl rfl) (fun k => pocket_idleCloser k p) rfl, .of_idle rfl rfl⟩

/-- What a book does with its gathered leaves when it gives its pocket up: they count as diverted or as lost (R43,
R110, R116). -/
def MovesGathered (f : Book → Book) : Prop :=
  ∀ b, ∃ d l, f b = { b with diverted := b.diverted + d, lost := b.lost + l } ∧ d + l = b.gathered

theorem kept_giveUpPocket {p : Part} (hp : p.Kept) {k : PocketId} {n : Nat} {b : Book} {f : Book → Book}
    (hf : MovesGathered f) (hk : (p.pocket k).book = some n) (hw : ¬ waitsForCloser (p.pocket k).state)
    (hb : p.book? n = some b) (hs : b.state = .spoiled) : (p.giveUpPocket k n f).Kept := by
  obtain ⟨hmem, hnum⟩ := hp.book?_iff.1 hb
  have hpocket : b.pocket = some k := ((hp.fits b hmem).link k).2 (by rw [hnum]; exact hk)
  unfold giveUpPocket
  refine Kept.endTest (p := (p.setPocket k ⟨.free, none⟩).updateBook n _) ?_ n
  refine hp.changeFreed hb hpocket (g := fun b => { f b with gathered := 0, pocket := none }) (fun x => ?_)
    (by simp [updateBook]) (by simp [hs]) ?_ (by simp) (by simp) (fun j => by simp [pocket_setPocket]) (by simp) hw ?_
  · obtain ⟨d, l, he, -⟩ := hf x
    simp [he]
  · obtain ⟨d, l, he, -⟩ := hf b
    simp [updateBook, he, hs]
  · obtain ⟨d, l, he, hdl⟩ := hf b
    obtain ⟨hsum, hae, hmax, hqueue, -, -, -, hend, hout, hspoil⟩ := (hp.fits b hmem).sound
    rw [he]
    refine ⟨?_, hae, hmax, hqueue, ?_, ?_, ?_, ?_, hout, hspoil⟩
    · dsimp only
      omega
    all_goals simp [hs]

theorem kept_dump {p : Part} (hp : p.Kept) (hc : p.CloserAgrees) (h : p.closer.state = .dump) :
    p.dumpEmptied.Kept ∧ p.dumpEmptied.CloserAgrees := by
  obtain ⟨cur, b, hcur, hown, hb, -, hdump, -⟩ := hc.2 (by simp [h])
  have hst := hdump h
  obtain ⟨b', hb', -, -, -, hhold⟩ := hp.held hown
  have hs : b'.state = .spoiled := by simpa [hst, holders] using hhold
  unfold dumpEmptied
  rw [hcur]
  exact kept_idleCloser (kept_giveUpPocket hp (fun b => ⟨b.gathered, 0, by simp, by simp⟩) hown
    (by simp [hst, waitsForCloser]) hb' hs)

theorem kept_clear {p : Part} (hp : p.Kept) (hc : p.CloserAgrees) : p.clearCloser.Kept ∧ p.clearCloser.CloserAgrees := by
  unfold clearCloser
  split
  · next h =>
    obtain ⟨cur, b, hcur, hown, hb, -, -, hfault⟩ := hc.2 (by simp [h])
    obtain ⟨hst, hs⟩ := hfault h
    have hdropped : (p.dropActive b.id).Kept :=
      hp.same (by simp) (by simp) (by simp) (by simp) (.inl (by simp)) (by simp) (by simp)
    rw [hcur]
    dsimp only
    rw [hb]
    refine kept_idleCloser (kept_giveUpPocket hdropped (fun b => ⟨0, b.gathered, by simp, by simp⟩)
      (by simpa using hown) ?_ (b := b) (by simpa [book?] using hb) hs)
    rw [pocket_dropActive]
    simp only [List.mem_cons, List.not_mem_nil, or_false] at hst
    rcases hst with hst | hst <;> simp [hst, waitsForCloser]
  · exact ⟨hp, hc⟩

/-- The book that a bind completes (R42). -/
def boundBook (b : Book) : Book := Book.endedWith .bound { b with pocket := none }

theorem kept_eject {p : Part} (hp : p.Kept) (hc : p.CloserAgrees) (h : p.closer.state = .eject) :
    p.ejectBound.Kept ∧ p.ejectBound.CloserAgrees := by
  obtain ⟨cur, b, hcur, hown, hb, hbind, -, -⟩ := hc.2 (by simp [h])
  obtain ⟨hst, hs⟩ := hbind (by rw [h]; rfl)
  obtain ⟨hmem, hnum⟩ := hp.book?_iff.1 hb
  have hfit := hp.fits b hmem
  have hpocket : b.pocket = some cur.pocket := (hfit.link _).2 (by rw [hnum]; exact hown)
  have hfound : (p.updateBook cur.book fun b => { b with pocket := none }).book? cur.book =
      some { b with pocket := none } := by
    rw [book?_updateBook _ _ _ (fun x => by rfl), if_pos rfl, hb]
    rfl
  unfold ejectBound
  rw [hcur]
  dsimp only
  rw [endBook_eq _ hfound]
  refine kept_idleCloser (hp.changeFreed hb hpocket (g := boundBook) (fun _ => ⟨rfl, rfl, rfl, rfl⟩) ?_ (by simp [hs])
    (by simp [updateBook, boundBook, Book.endedWith, Book.enter]) (by simp) (by simp)
    (fun j => by rw [pocket_setPocket]; rfl) (by simp) (by simp [hst, waitsForCloser]) ?_)
  · simp only [setPocket_frame, onBooks_fields, updateBook, List.map_map]
    refine List.map_congr_left fun x _ => ?_
    simp only [Function.comp_apply]
    by_cases hx : x.number = cur.book <;> simp [hx, boundBook]
  · obtain ⟨hsum, hae, hmax, hqueue, -, hadm, hgat, -, hout, hspoil⟩ := hfit.sound
    have hadm' := hadm (by simp [hs])
    have hgat' := hgat (by simp [hs])
    have hopen : p.openOf b.number = 0 := by omega
    have hreason : b.spoilReason = none := hspoil.2 (.inl (by simp [hs]))
    refine ⟨hsum, hae, hmax, hqueue, ?_, fun _ => hadm', ?_, fun _ => hopen, ?_, ?_⟩
    all_goals simp [boundBook, Book.endedWith, Book.enter, hreason]

/-! ### Spoils, faults and halts -/

theorem endTest_kept_of_pocket {p : Part} {n : Nat} {b : Book} (hb : p.book? n = some b) (hk : b.pocket ≠ none) :
    p.endTest n = p := by
  unfold endTest
  rw [hb]
  dsimp only
  rw [if_neg]
  intro h
  exact hk (Book.mayEnd_iff.1 h).2.2.2

theorem pocket_endTest (n : Nat) (k : PocketId) (p : Part) : (p.endTest n).pocket k = p.pocket k :=
  pocket_congr (by simp) (by simp) k

theorem takeSpoiled_book? {n m : Nat} {why : SpoilReason} {lower : Bool} {b : Book} (p : Part) (h : m ≠ n) :
    ((p.takeSpoiled n why lower b).endTest n).book? m = p.book? m := by
  rw [book?_endTest_ne _ h]
  unfold takeSpoiled
  rw [book?_dropStaged]
  split
  · rw [book?_spoilPocket, book?_updateBook _ _ _ (fun x => (Book.spoiledBy_fields _ _ x).1), if_neg h]
  · rw [book?_updateBook _ _ _ (fun x => (Book.spoiledBy_fields _ _ x).1), if_neg h]

/-- A spoil leaves the pockets alone that the closer has. -/
theorem spoil_pocket {p : Part} (hp : p.Kept) (n : Nat) (why : SpoilReason) (lower : Bool) {k : PocketId}
    (hk : (p.pocket k).state ∈ [PocketState.binding, .dumping]) : (p.spoil n why lower).pocket k = p.pocket k := by
  cases hb : p.book? n with
  | none => rw [spoil_none why lower hb]
  | some b =>
    have fresh (hs : b.state = .opened ∨ b.state = .filled ∨ b.state = .ready) :
        (p.spoil n why lower).pocket k = p.pocket k := by
      rw [spoil_fresh_eq why lower hb hs, pocket_endTest]
      unfold takeSpoiled
      rw [pocket_dropStaged]
      split
      · next j hj =>
        have hne : k ≠ j := by
          rintro rfl
          rcases hp.fresh_pocket hb hj hs with h | h <;> simp [h] at hk
        rcases hp.fresh_pocket hb hj hs with h | h
        · rw [spoilPocket_gathering (by simpa using h), pocket_joinRequests, pocket_movePocket, if_neg hne]
          rfl
        · rw [spoilPocket_full (by simpa using h), pocket_movePocket, if_neg hne]
          rfl
      · rfl
    cases hs : b.state with
    | opened => exact fresh (.inl hs)
    | filled => exact fresh (.inr (.inl hs))
    | ready => exact fresh (.inr (.inr hs))
    | closing =>
      rw [spoil_closing_eq why lower hb hs]
      split
      · rw [pocket_endTest]; rfl
      · rfl
    | spoiled => rw [spoil_spoiled_eq why lower hb hs, pocket_endTest]; rfl
    | ended => rw [spoil_ended_eq why lower hb hs]

@[simp] theorem spoil_current (n : Nat) (why : SpoilReason) (lower : Bool) (p : Part) :
    (p.spoil n why lower).closer.current = p.closer.current := by
  have hpocket (k : PocketId) (q : Part) : (q.spoilPocket k).closer.current = q.closer.current := by
    unfold spoilPocket
    split <;> cases k <;> rfl
  have hstaged (i : Nat) (q : Part) : (q.dropStaged i).closer.current = q.closer.current := by
    simp only [dropStaged, onCloser_fields]
    repeat' split
    all_goals rfl
  unfold spoil
  dsimp only
  repeat' split
  all_goals simp [hpocket, hstaged]

/-- The book of a pocket that the closer has is CLOSING or SPOILED (R37). -/
theorem Kept.closer_book {p : Part} (hp : p.Kept) {k : PocketId} {n : Nat} {b : Book}
    (hk : (p.pocket k).state ∈ [PocketState.binding, .dumping]) (hn : (p.pocket k).book = some n)
    (hb : p.book? n = some b) : b.pocket = some k ∧ (b.state = .closing ∨ b.state = .spoiled) := by
  obtain ⟨c, hc, -, -, hpocket, hhold⟩ := hp.held hn
  have hcb : c = b := Option.some.inj (hc.symm.trans hb)
  rw [hcb] at hpocket hhold
  refine ⟨hpocket, ?_⟩
  simp only [List.mem_cons, List.not_mem_nil, or_false] at hk
  rcases hk with hk | hk
  · simpa [hk, holders] using hhold
  · exact .inr (by simpa [hk, holders] using hhold)

/-- A spoil of a book whose pocket the closer has: only a closer fault and a halt change its state (R42). -/
theorem Kept.spoil_closer_book {p : Part} (hp : p.Kept) (n : Nat) (why : SpoilReason) (lower : Bool) {k : PocketId}
    {m : Nat} {b : Book} (hk : (p.pocket k).state ∈ [PocketState.binding, .dumping]) (hn : (p.pocket k).book = some m)
    (hb : p.book? m = some b) :
    ∃ c, (p.spoil n why lower).book? m = some c ∧
      c.state = if m = n ∧ (why = .closerFault ∨ why = .lineHalt) then .spoiled else b.state := by
  obtain ⟨hpocket, hs⟩ := hp.closer_book hk hn hb
  by_cases hmn : m = n
  · subst hmn
    rcases hs with hs | hs
    · rw [spoil_closing_eq why lower hb hs]
      by_cases hw : why = .closerFault ∨ why = .lineHalt
      · have hfound : (p.updateBook m (Book.spoiledBy why false)).book? m = some (Book.spoiledBy why false b) := by
          rw [book?_updateBook _ _ _ (fun x => (Book.spoiledBy_fields _ _ x).1), if_pos rfl, hb]
          rfl
        rw [if_pos hw, endTest_kept_of_pocket hfound (by simp [(Book.spoiledBy_fields why false b).2.2.2, hpocket])]
        exact ⟨_, hfound, by simp [Book.spoiledBy_state, hw]⟩
      · rw [if_neg hw]
        exact ⟨b, hb, by simp [hw]⟩
    · rw [spoil_spoiled_eq why lower hb hs]
      have hfound : (p.updateBook m (Book.lowered lower)).book? m = some (Book.lowered lower b) := by
        rw [book?_updateBook _ _ _ (fun x => (Book.lowered_fields _ x).1), if_pos rfl, hb]
        rfl
      rw [endTest_kept_of_pocket hfound (by simp [(Book.lowered_fields lower b).2.2.2, hpocket])]
      refine ⟨_, hfound, ?_⟩
      rw [Book.lowered_state, hs]
      split <;> rfl
  · rw [book?_spoil_ne why lower p hmn]
    exact ⟨b, hb, by simp [hmn]⟩

theorem CloserAgrees.endTest {p : Part} (hp : p.Kept) (hc : p.CloserAgrees) (n : Nat) :
    (p.endTest n).CloserAgrees := by
  refine hc.congr (by simp) (by simp) (fun k _ => pocket_endTest n k p) fun k m b hk hm hb => ⟨b, ?_, rfl⟩
  obtain ⟨hpocket, -⟩ := hp.closer_book hk hm hb
  by_cases hmn : m = n
  · subst hmn
    rw [endTest_kept_of_pocket hb (by simp [hpocket])]
    exact hb
  · rwa [book?_endTest_ne p hmn]

theorem makeReady_closer (n : Nat) (p : Part) :
    (p.makeReady n).closer.state = p.closer.state ∧ (p.makeReady n).closer.current = p.closer.current := by
  have hjoined (k : PocketId) (q : Part) : ((q.movePocket k .full).joinRequests k).closer.state = q.closer.state ∧
      ((q.movePocket k .full).joinRequests k).closer.current = q.closer.current := by cases k <;> exact ⟨rfl, rfl⟩
  unfold makeReady
  split
  · exact ⟨rfl, rfl⟩
  · next b _ =>
    dsimp only
    cases hk : b.pocket with
    | none =>
      dsimp only
      split
      · exact ⟨rfl, rfl⟩
      · simp only [onCloser_fields]
        split <;> exact ⟨rfl, rfl⟩
    | some k =>
      dsimp only
      split
      · exact hjoined k _
      · simp only [onCloser_fields]
        split <;> exact hjoined k _

/-- Only a FILLED book becomes READY: its pocket is not the closer's. -/
theorem CloserAgrees.readyTest {p : Part} (hp : p.Kept) (hc : p.CloserAgrees) (n : Nat) :
    (p.readyTest n).CloserAgrees := by
  unfold Part.readyTest
  split
  · next b hb =>
    split
    · next h =>
      obtain ⟨hstate, hcur⟩ := makeReady_closer n p
      refine hc.congr hstate hcur (fun k hk => ?_) fun k m c hk hm hcm => ⟨c, ?_, rfl⟩
      · rw [makeReady_pocket hb, if_neg]
        intro hpk
        have hhold := (hp.fits b (hp.book?_iff.1 hb).1).holder k hpk
        simp only [List.mem_cons, List.not_mem_nil, or_false] at hk
        rcases hk with hk | hk <;> simp [hk, h.1, holders] at hhold
      · obtain ⟨-, hs⟩ := hp.closer_book hk hm hcm
        have hne : m ≠ n := by
          rintro rfl
          rw [hb] at hcm
          rw [← Option.some.inj hcm, h.1] at hs
          simp at hs
        unfold book? at hcm ⊢
        rw [makeReady_books hb]
        have := book?_updateBook n m (Book.enter .ready) (fun _ => rfl) p
        unfold book? at this
        rw [this, if_neg hne, hcm]
    · exact hc
  · exact hc

theorem CloserAgrees.spoil {p : Part} (hp : p.Kept) (hc : p.CloserAgrees) (n : Nat) (why : SpoilReason) (lower : Bool)
    (h : (why ≠ .closerFault ∧ why ≠ .lineHalt) ∨ bindState p.closer.state = false) :
    (p.spoil n why lower).CloserAgrees := by
  obtain ⟨hstate, -⟩ := spoil_closer n why lower p
  refine ⟨fun hi => by simpa using hc.1 (hstate ▸ hi), fun hn => ?_⟩
  rw [hstate] at hn
  obtain ⟨cur, b, hcur, hown, hb, hbind, hdump, hfault⟩ := hc.2 hn
  obtain ⟨cur', b', hcur', -, -, hst⟩ := hc.working hn
  have hsame : cur' = cur := Option.some.inj (hcur'.symm.trans hcur)
  rw [hsame] at hst
  obtain ⟨c, hcb, hcs⟩ := hp.spoil_closer_book n why lower hst hown hb
  refine ⟨cur, c, (spoil_current n why lower p).trans hcur, ?_, hcb, ?_, ?_, ?_⟩
  all_goals rw [spoil_pocket hp n why lower hst]
  · exact hown
  · rw [hstate]
    intro hbs
    obtain ⟨hpb, hbc⟩ := hbind hbs
    refine ⟨hpb, ?_⟩
    rw [hcs, hbc, if_neg]
    rintro ⟨-, hw⟩
    rcases h with h | h
    · exact hw.elim h.1 h.2
    · simp [hbs] at h
  · rw [hstate]
    exact hdump
  · rw [hstate]
    intro hf
    obtain ⟨hpb, hbs⟩ := hfault hf
    exact ⟨hpb, by rw [hcs, hbs]; split <;> rfl⟩

theorem kept_fail {p : Part} (hp : p.Kept) (hc : p.CloserAgrees) (c : CloserCause)
    (h : p.cycleRunning .closer = true) : (p.closerFails c).Kept ∧ (p.closerFails c).CloserAgrees := by
  have hnot : p.closer.state ≠ .idle ∧ p.closer.state ≠ .fault := by
    constructor <;> intro hs <;> simp [cycleRunning, hs, bindState] at h
  obtain ⟨cur, b, hcur, hown, hb, hbind, hdump, -⟩ := hc.2 hnot.1
  obtain ⟨cur', b', hcur', -, -, hst⟩ := hc.working hnot.1
  have hsame : cur' = cur := Option.some.inj (hcur'.symm.trans hcur)
  rw [hsame] at hst
  have faulted (q : Part) (hbook : q.books = p.books) (ht : q.tracker = p.tracker) (hport : q.port = p.port)
      (ha : q.closer.pocketA = p.closer.pocketA) (hb : q.closer.pocketB = p.closer.pocketB)
      (hr : q.closer.requests = p.closer.requests) : q.Kept :=
    hp.same (by rw [hbook]) (by rw [hbook]) (by rw [ht]) (by rw [ht]) (.inl (by rw [hport])) (pocket_congr ha hb) hr
  unfold closerFails
  rw [hcur]
  dsimp only
  split
  · next hd =>
    have hst' := hdump hd
    have hspoiled : b.state = .spoiled := by
      obtain ⟨x, hx, -, -, -, hhold⟩ := hp.held hown
      have hxb : x = b := Option.some.inj (hx.symm.trans hb)
      rw [hxb] at hhold
      simpa [hst', holders] using hhold
    refine ⟨faulted _ rfl rfl rfl rfl rfl rfl, by simp, fun _ => ⟨cur, b, hcur, hown, hb, by simp [bindState], by simp, ?_⟩⟩
    exact fun _ => ⟨hst, hspoiled⟩
  · next hd =>
    generalize hq : ((p.onCloser fun c => { c with state := .fault, deadline := none }).onCloser fun x =>
      { x with faultRecord := some ⟨p.closer.state, cur.book, cur.pocket, c⟩ }) = q
    have hpocket (k : PocketId) : q.pocket k = p.pocket k := by rw [← hq]; exact pocket_congr rfl rfl k
    have hbook (n : Nat) : q.book? n = p.book? n := by rw [← hq]; rfl
    have hkept : q.Kept := faulted q (by rw [← hq]; rfl) (by rw [← hq]; rfl) (by rw [← hq]; rfl) (by rw [← hq]; rfl)
      (by rw [← hq]; rfl) (by rw [← hq]; rfl)
    have hqst : (q.pocket cur.pocket).state ∈ [PocketState.binding, .dumping] := by rw [hpocket]; exact hst
    obtain ⟨hstate, -⟩ := spoil_closer cur.book .closerFault false q
    have hfault : q.closer.state = .fault := by rw [← hq]; rfl
    obtain ⟨x, hx, hxs⟩ := hkept.spoil_closer_book cur.book .closerFault false hqst (by rw [hpocket]; exact hown)
      (by rw [hbook]; exact hb)
    refine ⟨hkept.spoil _ _ _, by simp [hstate, hfault], fun _ => ⟨cur, x, ?_, ?_, hx, ?_, ?_, ?_⟩⟩
    · rw [spoil_current, ← hq]; exact hcur
    · rw [spoil_pocket hkept _ _ _ hqst, hpocket]; exact hown
    · simp [hstate, hfault, bindState]
    · simp [hstate, hfault]
    · refine fun _ => ⟨?_, by simpa using hxs⟩
      rw [spoil_pocket hkept _ _ _ hqst, hpocket]
      exact hst

theorem kept_returnPocket {p : Part} (hp : p.Kept) {k : PocketId} {n : Nat} {b : Book}
    (hk : (p.pocket k).state ∈ [PocketState.binding, .dumping]) (hn : (p.pocket k).book = some n)
    (hb : p.book? n = some b) (hs : b.state = .spoiled) : (p.returnPocket k).Kept := by
  obtain ⟨hpocket, -⟩ := hp.closer_book hk hn hb
  have hmoved (j : PocketId) : (p.returnPocket k).pocket j =
      if j = k then { p.pocket k with state := .dumpWait } else p.pocket j := by
    unfold returnPocket
    rw [pocket_requests, pocket_movePocket]
  refine hp.changeMoved hb hpocket (st := .dumpWait) (g := id) (fun _ => ⟨rfl, rfl, rfl, rfl⟩) (by simp) (by simp [hs])
    (by simp [hs]) (by simp) (by simp) (by simp) hmoved (by simp [hs, holders])
    (hp.fits b (hp.book?_iff.1 hb).1).sound ?_
  refine hp.listed.join (k := k) (by simp [returnPocket]) ?_ (by simp [hmoved, waitsForCloser])
    (fun j hj => by simp [hmoved, hj])
  simp only [List.mem_cons, List.not_mem_nil, or_false] at hk
  rcases hk with hk | hk <;> simp [hk, waitsForCloser]

/-- Halt entry at the closer: an abandoned cycle's pocket goes back to the head of the list (R118). -/
theorem kept_haltCloser {p : Part} (hp : p.Kept) (hc : p.CloserAgrees) :
    p.haltCloser.Kept ∧ p.haltCloser.CloserAgrees := by
  unfold haltCloser
  dsimp only
  generalize hq : (p.onCloser fun c => { c with active := none }) = q
  have hpocket (k : PocketId) : q.pocket k = p.pocket k := by rw [← hq]; exact pocket_congr rfl rfl k
  have hbook (n : Nat) : q.book? n = p.book? n := by rw [← hq]; rfl
  have hkept : q.Kept := by
    rw [← hq]
    exact hp.same rfl rfl rfl rfl (.inl rfl) (fun k => pocket_congr rfl rfl k) rfl
  have hagrees : q.CloserAgrees := by
    rw [← hq]
    exact hc.same rfl rfl (fun k => pocket_congr rfl rfl k) rfl
  split
  · next hbind =>
    obtain ⟨cur, b, hcur, hown, hb, hb', -, -⟩ := hc.2 (by rintro hs; simp [hs, bindState] at hbind)
    obtain ⟨hst, -⟩ := hb' hbind
    have hqst : (q.pocket cur.pocket).state ∈ [PocketState.binding, .dumping] := by simp [hpocket, hst]
    have hqown : (q.pocket cur.pocket).book = some cur.book := by rw [hpocket]; exact hown
    obtain ⟨x, hx, hxs⟩ := hkept.spoil_closer_book cur.book .lineHalt false hqst hqown (by rw [hbook]; exact hb)
    have hsame := spoil_pocket hkept cur.book .lineHalt false hqst
    rw [hcur]
    exact kept_idleCloser (kept_returnPocket (hkept.spoil _ _ _) (by rw [hsame]; exact hqst)
      (by rw [hsame]; exact hqown) hx (by simpa using hxs))
  · split
    · next hdump =>
      obtain ⟨cur, b, hcur, hown, -, -, hd, -⟩ := hc.2 (by simp [hdump])
      have hst := hd hdump
      have hqown : (q.pocket cur.pocket).book = some cur.book := by rw [hpocket]; exact hown
      obtain ⟨x, hx, -, -, -, hhold⟩ := hkept.held hqown
      rw [hcur]
      exact kept_idleCloser (kept_returnPocket hkept (by simp [hpocket, hst]) hqown hx
        (by simpa [hpocket, hst, holders] using hhold))
    · exact ⟨hkept, hagrees⟩

end Part

end Sys2Proof.Machine
end

section
/-! SUPPORT. Entries that join, go on, become DONE and leave keep the books and the pockets in agreement; so does every
move. -/

namespace Sys2Proof.Machine

theorem countP_modifyFirst {α : Type} {pick g : α → Bool} {f : α → α} (h : ∀ x, pick x = true → g (f x) = g x)
    (l : List α) : (modifyFirst pick f l).countP g = l.countP g := by
  rcases modifyFirst_cases pick f l with ⟨-, he⟩ | ⟨a, x, r, rfl, -, hx, he⟩
  · rw [he]
  · rw [he]
    simp only [List.countP_append, List.countP_cons, h x hx]

theorem mem_modifyFirst {α : Type} {pick : α → Bool} {f : α → α} {l : List α} {y : α} (h : y ∈ modifyFirst pick f l) :
    y ∈ l ∨ ∃ x ∈ l, y = f x := by
  rcases modifyFirst_cases pick f l with ⟨-, he⟩ | ⟨a, x, r, rfl, -, -, he⟩
  · exact .inl (he ▸ h)
  · rw [he, List.mem_append, List.mem_cons] at h
    rcases h with h | rfl | h
    · exact .inl (by simp [h])
    · exact .inr ⟨x, by simp, rfl⟩
    · exact .inl (by simp [h])

namespace Part

/-! ### The counts of a book's entries -/

/-- An entry of a book that is in the queue (R29). -/
def countsIn (n : Nat) (e : Entry) : Bool := !e.isVoid && e.book == n

/-- An entry of a book whose sheet is still to come (R36). -/
def countsOpen (n : Nat) (e : Entry) : Bool := !e.isVoid && e.stage != .done && e.book == n

theorem inQueueOf_eq (n : Nat) (p : Part) : p.inQueueOf n = p.tracker.queue.countP (countsIn n) := rfl

theorem openOf_eq (n : Nat) (p : Part) : p.openOf n = p.tracker.queue.countP (countsOpen n) := rfl

theorem countsOpen_eq (n : Nat) : countsOpen n = fun e => countsIn n e && e.stage != .done := by
  funext e
  simp only [countsOpen, countsIn, Bool.and_right_comm]

theorem openOf_pos {n : Nat} {p : Part} {e : Entry} (he : e ∈ p.tracker.queue) (hv : e.isVoid = false)
    (hs : e.stage ≠ .done) (hn : e.book = n) : 1 ≤ p.openOf n :=
  List.countP_pos_iff.2 ⟨e, he, by simp [hv, hs, hn]⟩

theorem no_open_of_no_record {n : Nat} {p : Part} (hp : p.Kept) (hb : p.book? n = none) :
    p.inQueueOf n = 0 ∧ p.openOf n = 0 := by
  have hzero : p.inQueueOf n = 0 := by
    refine List.countP_eq_zero.2 fun e he hc => ?_
    simp only [Bool.and_eq_true, Bool.not_eq_true', beq_iff_eq] at hc
    obtain ⟨b, hbm, hbn⟩ := hp.entry e he hc.1
    rw [hp.book?_iff.2 ⟨hbm, hbn.trans hc.2⟩] at hb
    cases hb
  have := openOf_le_inQueueOf n p
  exact ⟨hzero, by omega⟩

/-- A book with sheets still to come is in OPEN, FILLED or SPOILED. -/
theorem RecordSound.state_of_open {p : Part} {b : Book} (h : p.RecordSound b) (ho : 1 ≤ p.openOf b.number) :
    b.state = .opened ∨ b.state = .filled ∨ b.state = .spoiled := by
  obtain ⟨hsum, -, -, -, -, hadm, hgat, hend, -⟩ := h
  cases hs : b.state
  case opened | filled | spoiled => simp
  case ready | closing =>
    have := hgat (by simp [hs])
    have := hadm (by simp [hs])
    omega
  case ended =>
    have := hend hs
    omega

/-! ### Entries that go on -/

theorem kept_advance {p : Part} (hp : p.Kept) {a b : Stage} {f : Entry → Entry} (hf : Entry.SentTo b f)
    (hab : b.code = a.code + 1) (hb : b ≠ .done) : (p.modifyOldest a f).Kept := by
  have ha : a ≠ .done := fun ha => by
    have := Stage.code_le_done b
    rw [hab, ha] at this
    omega
  refine hp.queue (by simp) (by simp) le_rfl (.inl (by simp)) (fun k => pocket_congr (by simp) (by simp) k) (by simp)
    (fun n => (countP_modifyFirst (fun e he => ?_) _).le) (fun n => countP_modifyFirst (fun e _ => ?_) _)
    fun e he hv => ?_
  · obtain ⟨hs, hv, hbk, -⟩ := hf e
    have hea : e.stage = a := by simpa using he
    have hbd : (b != .done) = true := by simpa using hb
    have had : (a != .done) = true := by simpa using ha
    simp only [Entry.isVoid, hs, hv, hbk, hea, hbd, had]
  · obtain ⟨-, hv, hbk, -⟩ := hf e
    simp only [Entry.isVoid, hv, hbk]
  · rcases mem_modifyFirst he with he | ⟨x, hx, rfl⟩
    · exact ⟨e, he, hv, rfl⟩
    · obtain ⟨-, hv', hbk, -⟩ := hf x
      exact ⟨x, hx, by simpa [Entry.isVoid, hv'] using hv, hbk.symm⟩

theorem kept_mark {p : Part} (hp : p.Kept) (m : Option Nat) : (p.markEntry m).Kept := by
  unfold markEntry
  split
  · exact hp
  · next i =>
    have hsame (e : Entry) : (if e.id = i then { e with fenceMark := true } else e).isVoid = e.isVoid ∧
        (if e.id = i then { e with fenceMark := true } else e).stage = e.stage ∧
        (if e.id = i then { e with fenceMark := true } else e).book = e.book := by
      split <;> exact ⟨rfl, rfl, rfl⟩
    refine hp.queue rfl rfl le_rfl (.inl rfl) (fun k => pocket_congr rfl rfl k) rfl (fun n => ?_) (fun n => ?_)
      fun e he hv => ?_
    · simp only [openOf, onTracker_fields, List.countP_map, Function.comp_def, (hsame _).1, (hsame _).2.1, (hsame _).2.2,
        le_refl]
    · simp only [inQueueOf, onTracker_fields, List.countP_map, Function.comp_def, (hsame _).1, (hsame _).2.2]
    · obtain ⟨x, hx, rfl⟩ := List.mem_map.1 he
      exact ⟨x, hx, by rwa [(hsame x).1] at hv, (hsame x).2.2.symm⟩

/-- A VOID entry joins. -/
theorem kept_push {p : Part} (hp : p.Kept) (t : Ticket) (f : SheetFields) (r : VoidReason) :
    (p.pushEntry t f (some r)).Kept := by
  obtain ⟨hport, -, hbooks, -, -, hcloser, -⟩ := pushEntry_frame t f (some r) p
  have ht := pushEntry_tracker t f (some r) p
  refine hp.queue (by rw [hbooks]) (by rw [hbooks]) (by rw [ht]; simp) (.inl (by rw [hport]))
    (fun k => pocket_congr (by rw [hcloser]) (by rw [hcloser]) k) (by rw [hcloser]) (fun n => ?_) (fun n => ?_)
    fun e he hv => ?_
  · simp [openOf, ht, newEntry, Entry.isVoid]
  · simp [inQueueOf, ht, newEntry, Entry.isVoid]
  · rw [ht, List.mem_append, List.mem_singleton] at he
    rcases he with he | rfl
    · exact ⟨e, he, hv, rfl⟩
    · simp [newEntry, Entry.isVoid] at hv

/-! ### A sheet lands -/

theorem openOf_land {l r : List Entry} {e : Entry} {p q : Part} {o : Outcome} (hq : p.tracker.queue = l ++ e :: r)
    (hq' : q.tracker.queue = l ++ e.finish o :: r) (hs : e.stage ≠ .done) (n : Nat) :
    p.openOf n = q.openOf n + (if countsIn n e then 1 else 0) ∧ q.inQueueOf n = p.inQueueOf n := by
  have hdone : countsOpen n (e.finish o) = false := by simp [countsOpen, Entry.finish]
  have hlive : countsOpen n e = countsIn n e := by simp [countsOpen_eq, hs]
  have hin : countsIn n (e.finish o) = countsIn n e := rfl
  simp only [openOf_eq, inQueueOf_eq, hq, hq', List.countP_append, List.countP_cons, hdone, hlive, hin]
  constructor
  · simp only [Bool.false_eq_true, if_false]
    omega
  · trivial

/-- A leaf that lands in a pocket or in the reject tray (R36). -/
def countLanded (l : LandingSensor) (b : Book) : Book :=
  if l = .reject then { b with diverted := b.diverted + 1 } else { b with gathered := b.gathered + 1 }

theorem countLanded_fields (l : LandingSensor) (b : Book) :
    (countLanded l b).number = b.number ∧ (countLanded l b).id = b.id ∧ (countLanded l b).inQueue = b.inQueue ∧
    (countLanded l b).pocket = b.pocket ∧ (countLanded l b).state = b.state := by
  unfold countLanded
  split <;> exact ⟨rfl, rfl, rfl, rfl, rfl⟩

/-- A landing, less the book's READY test. -/
def landed (l : LandingSensor) (e : Entry) (p : Part) : Part :=
  ((p.modifyOldest .dropping (Entry.finish (if l = .reject then .diverted else .gathered))).lowerUse e.pattern).updateBook
    e.book (countLanded l)

theorem finishLanding_landed (l : LandingSensor) (e : Entry) (p : Part) (hv : e.isVoid = false) :
    p.finishLanding l e = if l = .reject then p.landed l e else (p.landed l e).readyTest e.book := by
  have hcount : countLanded l = if l = .reject then fun b => { b with diverted := b.diverted + 1 }
      else fun b => { b with gathered := b.gathered + 1 } := by
    funext b
    unfold countLanded
    split <;> rfl
  rw [finishLanding_eq, countDone, if_neg (by simp [hv])]
  unfold landed
  rw [hcount]
  by_cases hl : l = .reject
  · simp only [hl, if_true]
  · simp only [hl, if_false]

theorem RecordSound.landed {p q : Part} {b : Book} (l : LandingSensor) (h : p.RecordSound b)
    (ho : p.openOf b.number = q.openOf b.number + 1) (hi : q.inQueueOf b.number = p.inQueueOf b.number) :
    q.RecordSound (countLanded l b) := by
  have hs := h.state_of_open (by omega)
  obtain ⟨hsum, hae, hmax, hqueue, hopened, hadm, hgat, hend, hout, hspoil⟩ := h
  have hstate : b.state ∉ [BookState.ready, .closing] ∧ b.state ≠ .ended := by rcases hs with h | h | h <;> simp [h]
  unfold countLanded
  split
  · exact ⟨by dsimp only; omega, hae, hmax, hqueue.trans hi.symm, hopened, hadm, fun h => absurd h hstate.1,
      fun h => absurd h hstate.2, hout, hspoil⟩
  · exact ⟨by dsimp only; omega, hae, hmax, hqueue.trans hi.symm, hopened, hadm, fun h => absurd h hstate.1,
      fun h => absurd h hstate.2, hout, hspoil⟩

theorem oldest_split {st : Stage} {p : Part} {e : Entry} (h : p.oldest st = some e) :
    ∃ l r, p.tracker.queue = l ++ e :: r ∧ e.stage = st ∧
      ∀ f, (p.modifyOldest st f).tracker.queue = l ++ f e :: r := by
  obtain ⟨hs, l, r, hq, hl⟩ := List.find?_eq_some_iff_append.1 h
  have hstage : e.stage = st := by simpa using hs
  refine ⟨l, r, hq, hstage, fun f => ?_⟩
  rw [modifyOldest_append f hq (by simpa using hl) hstage]

/-- The entries of the queue in which one entry is DONE are those of the queue before. -/
theorem entries_land {xs ys : List Entry} {e : Entry} {p q : Part} {o : Outcome}
    (hq : p.tracker.queue = xs ++ e :: ys) (hq' : q.tracker.queue = xs ++ e.finish o :: ys) :
    ∀ x ∈ q.tracker.queue, x.isVoid = false → ∃ y ∈ p.tracker.queue, y.isVoid = false ∧ y.book = x.book := by
  intro x hx hv
  rw [hq', List.mem_append, List.mem_cons] at hx
  rcases hx with hx | rfl | hx
  · exact ⟨x, by simp [hq, hx], hv, rfl⟩
  · exact ⟨e, by simp [hq], hv, rfl⟩
  · exact ⟨x, by simp [hq, hx], hv, rfl⟩

theorem landed_records (l : LandingSensor) (e : Entry) (p : Part) :
    (p.landed l e).books.records =
      p.books.records.map fun x => if x.number = e.book then countLanded l x else x := by
  simp [landed, updateBook]

theorem landed_pocket (l : LandingSensor) (e : Entry) (p : Part) (k : PocketId) :
    (p.landed l e).pocket k = p.pocket k := pocket_congr (by simp [landed]) (by simp [landed]) k

theorem kept_landed {p : Part} (hp : p.Kept) (l : LandingSensor) {e : Entry} (ho : p.oldest .dropping = some e)
    (hv : e.isVoid = false) : (p.landed l e).Kept := by
  obtain ⟨xs, ys, hq, hs, hq'⟩ := oldest_split ho
  obtain ⟨b, hbm, hbn⟩ := hp.entry e (by simp [hq]) hv
  have hb := hp.book?_iff.2 ⟨hbm, hbn⟩
  have hqueue : (p.landed l e).tracker.queue =
      xs ++ e.finish (if l = .reject then .diverted else .gathered) :: ys := by simp [landed, hq']
  have hcount (n : Nat) := openOf_land hq hqueue (by simp [hs]) n
  have hpocket := landed_pocket l e p
  have hrec := landed_records l e p
  have hid (x : Book) : (if x.number = e.book then countLanded l x else x).id = x.id := by
    split <;> simp [countLanded_fields]
  have hend : (p.landed l e).books.endOrder = p.books.endOrder := by simp [landed, updateBook]
  obtain ⟨hfn, -, -, hfp, hfs⟩ := countLanded_fields l b
  have hfit := hp.fits b hbm
  refine hp.update hb (g := countLanded l) (fun x => ⟨(countLanded_fields l x).1, (countLanded_fields l x).2.1⟩) hrec
    (by simp [landed, modifyOldest]) (.of_eq hpocket) (fun m hm => ⟨?_, (hcount m).2⟩) ⟨?_, ?_, ?_⟩
    (fun x hx hxv => .inr (entries_land hq hqueue x hx hxv))
    (hp.listed.congr (by simp [landed]) fun k => by rw [hpocket])
    (hp.ends.map hrec hid (fun x _ => by split <;> simp [countLanded_fields]) hend)
    (hp.notice.map hrec hid (fun _ x _ _ h0 => by split <;> simp [countLanded_fields, h0])
      (by rw [hend]; exact fun _ => id) (.inl (by simp [landed])))
  · rw [(hcount m).1, if_neg (by simp [countsIn, Ne.symm hm]), Nat.add_zero]
  · refine hfit.sound.landed l ?_ (hcount _).2
    rw [(hcount b.number).1, if_pos (by simp [countsIn, hv, hbn])]
  · rw [hfp, hfn]
    simpa only [hpocket] using hfit.link
  · rw [hfp, hfs]
    simpa only [hpocket] using hfit.holder

theorem CloserAgrees.landed {p : Part} (hc : p.CloserAgrees) (l : LandingSensor) (e : Entry) :
    (p.landed l e).CloserAgrees := by
  refine hc.congr (by simp [Part.landed]) (by simp [Part.landed]) (fun k _ => landed_pocket l e p k)
    fun k n b _ _ hb => ?_
  have hfound := book?_map (landed_records l e p) (fun x => by split <;> simp [countLanded_fields]) n
  rw [hb, Option.map_some] at hfound
  exact ⟨_, hfound, by split <;> simp [countLanded_fields]⟩

theorem kept_land {p : Part} (hp : p.Kept) (hc : p.CloserAgrees) (l : LandingSensor) {e : Entry}
    (ho : p.oldest .dropping = some e) : (p.finishLanding l e).Kept ∧ (p.finishLanding l e).CloserAgrees := by
  cases hv : e.isVoid with
  | true =>
    obtain ⟨xs, ys, hq, hs, hq'⟩ := oldest_split ho
    have hplain : p.finishLanding l e =
        p.modifyOldest .dropping (Entry.finish (if l = .reject then .diverted else .gathered)) := by
      rw [finishLanding_eq, countDone, if_pos hv]
    have hqueue := hq' (Entry.finish (if l = .reject then .diverted else .gathered))
    have hcount (n : Nat) := openOf_land hq hqueue (by simp [hs]) n
    rw [hplain]
    exact ⟨hp.queue (by simp) (by simp) le_rfl (.inl (by simp)) (fun k => pocket_congr (by simp) (by simp) k) (by simp)
      (fun n => by rw [(hcount n).1]; omega) (fun n => (hcount n).2) (entries_land hq hqueue),
      hc.same (by simp) (by simp) (fun k => pocket_congr (by simp) (by simp) k) (by simp)⟩
  | false =>
    have hlanded := kept_landed hp l ho hv
    rw [finishLanding_landed l e p hv]
    split
    · exact ⟨hlanded, hc.landed l e⟩
    · exact ⟨hlanded.readyTest e.book, CloserAgrees.readyTest hlanded (hc.landed l e) e.book⟩

/-! ### Entries that are all DONE at once -/

theorem foldl_countDone_lost (l : List Entry) (p : Part) :
    (l.foldl (fun p e => p.countDone .lost e) p).books = { p.books with
      records := p.books.records.map fun b => { b with lost := b.lost + l.countP (countsIn b.number) } } := by
  induction l generalizing p with
  | nil => simp
  | cons e l ih =>
    rw [List.foldl_cons, ih]
    cases hv : e.isVoid with
    | true => simp [countDone, hv, countsIn]
    | false =>
      have hbooks : (p.countDone .lost e).books = { p.books with
          records := p.books.records.map fun b => if b.number = e.book then { b with lost := b.lost + 1 } else b } := by
        simp [countDone, hv, updateBook]
      rw [hbooks, List.map_map]
      refine congrArg (fun r => ({ p.books with records := r } : BookTable)) (List.map_congr_left fun b _ => ?_)
      simp only [Function.comp_apply]
      by_cases hb : b.number = e.book
      · simp [hb, countsIn, hv]
        omega
      · simp [hb, Ne.symm hb, countsIn]

/-- The LOST entries count into their books (R20, R36). -/
theorem finishAll_lost_books (pick : Entry → Bool) (p : Part) :
    (p.finishAll pick .lost).books = { p.books with
      records := p.books.records.map fun b =>
        { b with lost := b.lost + p.tracker.queue.countP fun e => pick e && countsIn b.number e } } := by
  unfold finishAll
  dsimp only
  rw [foldl_countDone_lost]
  simp only [onTracker_fields, List.countP_filter, Bool.and_comm]

/-- FLUSHED entries count into no book (R20). -/
theorem finishAll_flushed_books (pick : Entry → Bool) (p : Part) : (p.finishAll pick .flushed).books = p.books := by
  unfold finishAll
  exact (foldl_keeps _ Part.books (fun q e => by unfold countDone; split <;> simp) _ _).trans rfl

theorem openOf_finishes {pick : Stage → Bool} {o : Outcome} {p q : Part} (hd : pick .done = false)
    (hq : q.tracker.queue = p.tracker.queue.map fun e => if pick e.stage then e.finish o else e) (n : Nat) :
    (p.openOf n = q.openOf n + p.tracker.queue.countP fun e => pick e.stage && countsIn n e) ∧
      q.inQueueOf n = p.inQueueOf n := by
  constructor
  · rw [openOf_eq, openOf_eq, hq, countsOpen_eq]
    exact countP_live_finishes pick o hd _ _
  · rw [inQueueOf_eq, inQueueOf_eq, hq, List.countP_map]
    refine List.countP_congr fun e _ => ?_
    simp only [Function.comp_apply]
    split <;> exact Iff.rfl

theorem entries_finishes {pick : Stage → Bool} {o : Outcome} {p q : Part}
    (hq : q.tracker.queue = p.tracker.queue.map fun e => if pick e.stage then e.finish o else e) :
    ∀ x ∈ q.tracker.queue, x.isVoid = false → ∃ y ∈ p.tracker.queue, y.isVoid = false ∧ y.book = x.book := by
  intro x hx hv
  rw [hq] at hx
  obtain ⟨y, hy, rfl⟩ := List.mem_map.1 hx
  split at hv
  · next h => exact ⟨y, hy, hv, by rw [if_pos h]; rfl⟩
  · next h => exact ⟨y, hy, hv, by rw [if_neg h]⟩

theorem kept_finishLost {p : Part} (hp : p.Kept) {pick : Stage → Bool} (hd : pick .done = false) :
    (p.finishAll (fun e => pick e.stage) .lost).Kept := by
  have hbooks := finishAll_lost_books (fun e => pick e.stage) p
  have hrec := congrArg BookTable.records hbooks
  have hend := congrArg BookTable.endOrder hbooks
  have hcloser := finishAll_closer (fun e => pick e.stage) (o := .lost) (by simp) p
  have hqueue : (p.finishAll (fun e => pick e.stage) .lost).tracker.queue =
      p.tracker.queue.map fun e => if pick e.stage then e.finish .lost else e := by rw [finishAll_tracker]
  have hcount (n : Nat) := openOf_finishes hd hqueue n
  have hpocket (k : PocketId) : (p.finishAll (fun e => pick e.stage) .lost).pocket k = p.pocket k :=
    pocket_congr (by rw [hcloser]) (by rw [hcloser]) k
  refine hp.map hrec (fun b => ⟨rfl, rfl⟩) (by rw [finishAll_tracker]) (fun b hb => ?_) (fun e he hv => ?_)
    (by simpa only [hpocket] using hp.free) (by simpa only [hpocket] using hp.holder)
    (hp.listed.congr (by rw [hcloser]) fun k => by rw [hpocket]) (hp.ends.map hrec (fun _ => rfl) (fun _ _ => Iff.rfl) hend)
    (hp.notice.map hrec (fun _ => rfl) (fun _ _ _ _ => id) (by rw [hend]; exact fun _ => id) (.inl (by simp)))
  · obtain ⟨⟨hsum, hae, hmax, hin, hopened, hadm, hgat, hended, hrest⟩, hlink, hhold⟩ := hp.fits b hb
    obtain ⟨ho, hi⟩ := hcount b.number
    refine ⟨⟨by dsimp only; omega, hae, hmax, hin.trans hi.symm, hopened, hadm, hgat, fun h => ?_, hrest⟩, ?_, ?_⟩
    · have := hended h
      dsimp only
      omega
    · simpa only [hpocket] using hlink
    · simpa only [hpocket] using hhold
  · obtain ⟨x, hx, hxv, hxe⟩ := entries_finishes hqueue e he hv
    exact hxe ▸ hp.entry x hx hxv

theorem kept_finishFlushed {p : Part} (hp : p.Kept) {pick : Stage → Bool} (hd : pick .done = false) :
    (p.finishAll (fun e => pick e.stage) .flushed).Kept := by
  have hbooks := finishAll_flushed_books (fun e => pick e.stage) p
  have hcloser := finishAll_closer (fun e => pick e.stage) (o := .flushed) (by simp) p
  have hqueue : (p.finishAll (fun e => pick e.stage) .flushed).tracker.queue =
      p.tracker.queue.map fun e => if pick e.stage then e.finish .flushed else e := by rw [finishAll_tracker]
  exact hp.queue (by rw [hbooks]) (by rw [hbooks]) (by rw [finishAll_tracker]) (.inl (by simp))
    (fun k => pocket_congr (by rw [hcloser]) (by rw [hcloser]) k) (by rw [hcloser])
    (fun n => by rw [(openOf_finishes hd hqueue n).1]; omega) (fun n => (openOf_finishes hd hqueue n).2)
    (entries_finishes hqueue)

theorem CloserAgrees.finishAll {p : Part} (hc : p.CloserAgrees) (pick : Entry → Bool) {o : Outcome}
    (ho : o = .lost ∨ o = .flushed) : (p.finishAll pick o).CloserAgrees := by
  have hcloser := finishAll_closer pick (o := o) (by rcases ho with h | h <;> simp [h]) p
  refine hc.congr (by rw [hcloser]) (by rw [hcloser]) (fun k _ => pocket_congr (by rw [hcloser]) (by rw [hcloser]) k)
    fun k n b _ _ hb => ?_
  rcases ho with rfl | rfl
  · have hfound := book?_map (congrArg BookTable.records (finishAll_lost_books pick p)) (fun _ => rfl) n
    rw [hb, Option.map_some] at hfound
    exact ⟨_, hfound, rfl⟩
  · refine ⟨b, ?_, rfl⟩
    unfold book? at hb ⊢
    rwa [finishAll_flushed_books]

/-! ### A halt -/

theorem kept_stopAll {p : Part} (hp : p.Kept) (hc : p.CloserAgrees) : p.stopAll.Kept ∧ p.stopAll.CloserAgrees := by
  generalize hq : (p.onSup fun u => { u with line := .halt }).haltPunch.haltDrill = q
  have htracker : q.tracker = p.tracker := by rw [← hq, haltDrill_tracker, haltPunch_tracker]; rfl
  have hkept : q.Kept := hp.same (by rw [← hq]; simp) (by rw [← hq]; simp) (by rw [htracker]) (by rw [htracker])
    (.inl (by rw [← hq]; simp)) (fun k => by rw [← hq]; exact pocket_congr (by simp) (by simp) k) (by rw [← hq]; simp)
  have hagrees : q.CloserAgrees := hc.same (by rw [← hq]; simp) (by rw [← hq]; simp)
    (fun k => by rw [← hq]; exact pocket_congr (by simp) (by simp) k) (by rw [← hq]; simp)
  obtain ⟨hkept', hagrees'⟩ := kept_haltCloser hkept hagrees
  obtain ⟨-, hidle, -⟩ := haltCloser_closer q
  have hspoils : ∀ (l : List Entry) (r : Part), r.Kept → r.CloserAgrees → bindState r.closer.state = false →
      (l.foldl (fun q e => q.spoil e.book .lineHalt false) r).Kept ∧
      (l.foldl (fun q e => q.spoil e.book .lineHalt false) r).CloserAgrees := by
    intro l
    induction l with
    | nil => exact fun r hr hr' _ => ⟨hr, hr'⟩
    | cons e l ih =>
      exact fun r hr hr' hi => ih _ (hr.spoil _ _ _) (hr'.spoil hr _ _ _ (.inr hi)) (by rw [(spoil_closer _ _ _ r).1]; exact hi)
  have hlost := hspoils (q.haltCloser.tracker.queue.filter fun e => e.stage.inTransit && !e.isVoid)
    (q.haltCloser.finishAll (fun e => e.stage.inTransit) .lost) (kept_finishLost hkept' rfl)
    (hagrees'.finishAll _ (.inl rfl)) (by rw [finishAll_closer _ (by simp)]; exact hidle)
  have hstop : p.stopAll = ((q.haltCloser.loseTransit).onTracker fun t => { t with expected := none }).onSup
      fun u => { u with pocketWait := false } := by rw [← hq]; rfl
  rw [hstop]
  exact ⟨hlost.1.same rfl rfl rfl rfl (.inl rfl) (fun k => pocket_congr rfl rfl k) rfl,
    hlost.2.same rfl rfl (fun k => pocket_congr rfl rfl k) rfl⟩

end Part

end Sys2Proof.Machine
end

section
/-! SUPPORT. Admission, the sending of reports and notices, a grant, a link reset: every move keeps the books and the
pockets in agreement. -/

namespace Sys2Proof.Machine

namespace Part

/-! ### A continuation -/

/-- A record that a continuation counts into (R36). -/
def countContinuation (leaf : Nat) (b : Book) : Book :=
  let c := { b with admitted := b.admitted + 1, inQueue := b.inQueue + 1, lastLeaf := leaf }
  if c.state = .opened ∧ c.admitted = c.expected then c.enter .filled else c

theorem countContinuation_fields (leaf : Nat) (b : Book) :
    (countContinuation leaf b).number = b.number ∧ (countContinuation leaf b).id = b.id ∧
    (countContinuation leaf b).pocket = b.pocket ∧ (countContinuation leaf b).inQueue = b.inQueue + 1 := by
  unfold countContinuation
  dsimp only
  split <;> exact ⟨rfl, rfl, rfl, rfl⟩

theorem continueBook_books {f : SheetFields} {b : Book} {p : Part} (hb : p.book? f.book = some b) :
    (p.continueBook f).books = { (p.updateBook f.book (countContinuation f.leaf)).books with
      tailBook := some f.book } := by
  have hcount : (p.updateBook f.book (countContinuation f.leaf)).book? f.book = some (countContinuation f.leaf b) := by
    rw [book?_updateBook _ _ _ (fun x => (countContinuation_fields f.leaf x).1), if_pos rfl, hb]
    rfl
  have hnot : (countContinuation f.leaf b).mayEnd = false := by
    simp [Book.mayEnd, (countContinuation_fields f.leaf b).2.2.2]
  have htest : (p.updateBook f.book (countContinuation f.leaf)).endTest f.book =
      p.updateBook f.book (countContinuation f.leaf) := by
    unfold endTest
    rw [hcount]
    simp [hnot]
  have heq : p.continueBook f = ((p.updateBook f.book (countContinuation f.leaf)).endTest f.book).onBooks
      fun t => { t with tailBook := some f.book } := rfl
  rw [heq, htest]
  rfl

theorem RecordSound.continued {p q : Part} {b : Book} (leaf : Nat) (h : p.RecordSound b) (ha : b.admitted < b.expected)
    (ho : q.openOf b.number = p.openOf b.number + 1) (hi : q.inQueueOf b.number = p.inQueueOf b.number + 1) :
    q.RecordSound (countContinuation leaf b) ∧ (b.state = .opened ∨ b.state = .spoiled) := by
  obtain ⟨hsum, hae, hmax, hqueue, hopened, hadm, hgat, hend, hout, hspoil⟩ := h
  have hs : b.state = .opened ∨ b.state = .spoiled := by
    cases hs : b.state
    case opened | spoiled => simp
    all_goals
      have := hadm (by simp [hs])
      omega
  refine ⟨?_, hs⟩
  unfold countContinuation
  dsimp only
  split
  · next hf =>
    obtain ⟨hso, hfe⟩ := hf
    have hnone : b.outcome = none := by simpa [hso] using hout
    have hreason : b.spoilReason = none := hspoil.2 (.inl (by simp [hso]))
    refine ⟨?_, hfe.le, hmax, ?_, ?_, fun _ => hfe, ?_, ?_, ?_, ?_⟩
    · simp only [Book.enter]; omega
    · simp only [Book.enter]; omega
    all_goals simp [Book.enter, hnone, hreason]
  · next hf =>
    refine ⟨?_, ?_, hmax, ?_, fun hso => ?_, fun hm => ?_, fun hm => ?_, fun he => ?_, hout, hspoil⟩
    · dsimp only; omega
    · dsimp only; omega
    · dsimp only; omega
    · have := hopened hso
      dsimp only at hso ⊢
      have hne : b.admitted + 1 ≠ b.expected := fun h => hf ⟨hso, h⟩
      omega
    · rcases hs with hs | hs <;> simp [hs] at hm
    · rcases hs with hs | hs <;> simp [hs] at hm
    · rcases hs with hs | hs <;> simp [hs] at he

/-- The counts of the books when a non-VOID entry joins. -/
theorem counts_join {p q : Part} {e : Entry} (hq : q.tracker.queue = p.tracker.queue ++ [e]) (hv : e.isVoid = false)
    (hs : e.stage = .waiting) (n : Nat) :
    (q.openOf n = p.openOf n + if n = e.book then 1 else 0) ∧
      q.inQueueOf n = p.inQueueOf n + if n = e.book then 1 else 0 := by
  simp only [openOf_eq, inQueueOf_eq, hq, List.countP_append, List.countP_singleton, countsOpen, countsIn, hv, hs]
  constructor <;> by_cases hn : n = e.book <;> simp [hn, Ne.symm]

theorem kept_continues {p : Part} (hp : p.Kept) (hc : p.CloserAgrees) (t : Ticket) (f : SheetFields) {b : Book}
    (hb : p.book? f.book = some b) (ha : b.admitted < b.expected) :
    ((p.continueBook f).pushEntry t f none).Kept ∧ ((p.continueBook f).pushEntry t f none).CloserAgrees := by
  obtain ⟨hport, -, hbooks, -, -, hcloser, -⟩ := pushEntry_frame t f none (p.continueBook f)
  obtain ⟨hport', -, htracker', -, -, -, hcloser', -⟩ := continueBook_frame f p
  have htracker := pushEntry_tracker t f none (p.continueBook f)
  have hbook := continueBook_books hb
  generalize hq : (p.continueBook f).pushEntry t f none = q at *
  obtain ⟨hmem, hnum⟩ := hp.book?_iff.1 hb
  have hfit := hp.fits b hmem
  have hqueue : q.tracker.queue = p.tracker.queue ++ [(p.continueBook f).newEntry t f none] := by
    rw [htracker, htracker']
  have hcount (n : Nat) : (q.openOf n = p.openOf n + if n = f.book then 1 else 0) ∧
      q.inQueueOf n = p.inQueueOf n + if n = f.book then 1 else 0 := counts_join hqueue rfl rfl n
  have hpocket (k : PocketId) : q.pocket k = p.pocket k :=
    pocket_congr (by rw [hcloser, hcloser']) (by rw [hcloser, hcloser']) k
  have hrec : q.books.records =
      p.books.records.map fun x => if x.number = f.book then countContinuation f.leaf x else x := by
    rw [hbooks, hbook]; rfl
  have hend : q.books.endOrder = p.books.endOrder := by rw [hbooks, hbook]; rfl
  have hid (x : Book) : (if x.number = f.book then countContinuation f.leaf x else x).id = x.id := by
    split <;> simp [countContinuation_fields]
  obtain ⟨hsound, hs⟩ := hfit.sound.continued (q := q) f.leaf ha (by rw [(hcount _).1, if_pos (by simpa using hnum)])
    (by rw [(hcount _).2, if_pos (by simpa using hnum)])
  obtain ⟨hfn, hfi, hfp, -⟩ := countContinuation_fields f.leaf b
  have hstate : ∀ x ∈ p.books.records, x.number = f.book →
      (countContinuation f.leaf x).state = x.state ∨ (x.state = .opened ∧ (countContinuation f.leaf x).state = .filled) := by
    intro x _ _
    unfold countContinuation
    dsimp only
    split
    · next h => exact .inr ⟨h.1, rfl⟩
    · exact .inl rfl
  refine ⟨hp.update hb (g := countContinuation f.leaf)
    (fun x => ⟨(countContinuation_fields f.leaf x).1, (countContinuation_fields f.leaf x).2.1⟩) hrec
    (by rw [htracker, htracker']; simp) (.of_eq hpocket) (fun m hm => ?_) ⟨hsound, ?_, fun k hk => ?_⟩
    (fun e he hv => ?_) (hp.listed.congr (by rw [hcloser, hcloser']) fun k => by rw [hpocket])
    (hp.ends.map hrec hid (fun x hx => ?_) hend)
    (hp.notice.map hrec hid (fun i x hi hx h0 => ?_) (by rw [hend]; exact fun _ => id) (.inl (by rw [hport, hport']))),
    hc.congr (by rw [hcloser, hcloser']) (by rw [hcloser, hcloser']) (fun k _ => hpocket k) fun k n c hk hn hcb => ?_⟩
  · exact ⟨by rw [(hcount m).1, if_neg hm, Nat.add_zero], by rw [(hcount m).2, if_neg hm, Nat.add_zero]⟩
  · rw [hfp, hfn]
    simpa only [hpocket] using hfit.link
  · rw [hpocket]
    have hhold := hfit.holder k (hfp ▸ hk)
    rcases hstate b hmem hnum with h | ⟨h, h'⟩
    · rwa [h]
    · rw [h] at hhold
      rw [h']
      cases hps : (p.pocket k).state <;> simp [hps, holders] at hhold ⊢
  · rw [hqueue, List.mem_append, List.mem_singleton] at he
    rcases he with he | rfl
    · exact .inr ⟨e, he, hv, rfl⟩
    · exact .inl rfl
  · split
    · next hx' => rcases hstate x hx hx' with h | ⟨h, h'⟩ <;> simp [*]
    · rfl
  · obtain ⟨y, hy, hyi, hys⟩ := (hp.ends.2 i).1 hi
    obtain ⟨hxm, hxi⟩ := hp.recordById?_iff.1 hx
    have hxy : x = y := hp.same_id hxm hy (hxi.trans hyi.symm)
    have hne : x.number ≠ f.book := by
      intro hxn
      have hxb : x = b := hp.same_number hxm hmem (hxn.trans hnum.symm)
      rw [← hxy, hxb] at hys
      rcases hs with hs | hs <;> simp [hs] at hys
    rw [if_neg hne]
    exact h0
  · obtain ⟨-, hcs⟩ := hp.closer_book hk hn hcb
    have hfound := book?_map hrec (fun x => by split <;> simp [countContinuation_fields]) n
    rw [hcb, Option.map_some] at hfound
    refine ⟨_, hfound, ?_⟩
    split
    · next hcn =>
      rcases hstate c (hp.book?_iff.1 hcb).1 hcn with h | ⟨h, -⟩
      · exact h
      · rcases hcs with hcs | hcs <;> simp [hcs] at h
    · rfl

/-! ### An opening -/

/-- The record that an opening ticket creates (R29, R34). -/
def openedBook (f : SheetFields) (h : BookHeader) (p : Part) : Book :=
  { id := p.tracker.nextId, number := f.book, state := .opened, expected := h.expected, admitted := 1, gathered := 0
    diverted := 0, lost := 0, inQueue := 1, wireClass := h.wireClass, loopCount := h.loopCount
    hanger := h.hanger == 1, pocket := none, spoilReason := none, generation := 0, openingSeq := f.sequence
    lastLeaf := 1, outcome := none }

theorem kept_opens {p : Part} (hp : p.Kept) (hc : p.CloserAgrees) (t : Ticket) (f : SheetFields) (h : BookHeader)
    (hb : p.book? f.book = none) (h2 : 2 ≤ h.expected) (h60 : h.expected ≤ 60) :
    ((p.openBook f h).pushEntry t f none).Kept ∧ ((p.openBook f h).pushEntry t f none).CloserAgrees := by
  obtain ⟨hport, -, hbooks, -, -, hcloser, -⟩ := pushEntry_frame t f none (p.openBook f h)
  have htracker := pushEntry_tracker t f none (p.openBook f h)
  have hrec : ((p.openBook f h).pushEntry t f none).books.records = p.books.records ++ [p.openedBook f h] := by
    rw [hbooks]; rfl
  have hend : ((p.openBook f h).pushEntry t f none).books.endOrder = p.books.endOrder := by rw [hbooks]; rfl
  have hpocket (k : PocketId) : ((p.openBook f h).pushEntry t f none).pocket k = p.pocket k :=
    pocket_congr (by rw [hcloser]; rfl) (by rw [hcloser]; rfl) k
  have hnext : ((p.openBook f h).pushEntry t f none).tracker.nextId = p.tracker.nextId + 1 := by rw [htracker]; rfl
  have hsend : ((p.openBook f h).pushEntry t f none).port.sending = p.port.sending := by rw [hport]; rfl
  have hreq : ((p.openBook f h).pushEntry t f none).closer = p.closer := by rw [hcloser]; rfl
  have hqueue : ((p.openBook f h).pushEntry t f none).tracker.queue =
      p.tracker.queue ++ [(p.openBook f h).newEntry t f none] := by rw [htracker]; rfl
  generalize (p.openBook f h).pushEntry t f none = q at *
  have hcount (n : Nat) : (q.openOf n = p.openOf n + if n = f.book then 1 else 0) ∧
      q.inQueueOf n = p.inQueueOf n + if n = f.book then 1 else 0 := counts_join hqueue rfl rfl n
  obtain ⟨hin0, hopen0⟩ := no_open_of_no_record hp hb
  have hnew : ∀ b ∈ p.books.records, b.number ≠ f.book := fun b hbm hbn => by
    rw [hp.book?_iff.2 ⟨hbm, hbn⟩] at hb
    cases hb
  have hfresh : ∀ b ∈ p.books.records, b.id ≠ p.tracker.nextId := fun b hbm => (hp.fresh b hbm).ne
  have hold {b : Book} (hbm : b ∈ p.books.records) : b ∈ q.books.records := by rw [hrec]; simp [hbm]
  have hfound {n : Nat} {b : Book} (hbn : p.book? n = some b) : q.book? n = some b := by
    unfold book? at hbn ⊢
    rw [hrec, List.find?_append, hbn]
    rfl
  refine ⟨⟨?_, ?_, fun b hbm => ?_, fun b hbm => ?_, fun e he hv => ?_, by simpa only [hpocket] using hp.free,
    fun k n hk => ?_, hp.listed.congr (by rw [hreq]) fun k => by rw [hpocket], ⟨by rw [hend]; exact hp.ends.1, fun i => ?_⟩,
    fun hs => ?_⟩, hc.congr (by rw [hreq]) (by rw [hreq]) (fun k _ => hpocket k) fun _ _ b _ _ hbn => ⟨b, hfound hbn, rfl⟩⟩
  · rw [hrec, List.map_append, List.map_singleton]
    exact List.nodup_append.2 ⟨hp.numbers, by simp, fun a ha c hcm => by
      obtain ⟨b, hbm, rfl⟩ := List.mem_map.1 ha
      rw [List.mem_singleton.1 hcm]
      exact hnew b hbm⟩
  · rw [hrec, List.map_append, List.map_singleton]
    exact List.nodup_append.2 ⟨hp.ids, by simp, fun a ha c hcm => by
      obtain ⟨b, hbm, rfl⟩ := List.mem_map.1 ha
      rw [List.mem_singleton.1 hcm]
      exact hfresh b hbm⟩
  · rw [hrec, List.mem_append, List.mem_singleton] at hbm
    rw [hnext]
    rcases hbm with hbm | rfl
    · exact (hp.fresh b hbm).trans (Nat.lt_succ_self _)
    · exact Nat.lt_succ_self _
  · rw [hrec, List.mem_append, List.mem_singleton] at hbm
    rcases hbm with hbm | rfl
    · exact (hp.fits b hbm).other (hnew b hbm) (.of_eq hpocket)
        (by rw [(hcount _).1, if_neg (hnew b hbm), Nat.add_zero]) (by rw [(hcount _).2, if_neg (hnew b hbm), Nat.add_zero])
    · refine ⟨?_, fun k => ?_, fun k hk => by simp [openedBook] at hk⟩
      · obtain ⟨ho, hi⟩ := hcount f.book
        rw [if_pos rfl] at ho hi
        refine ⟨?_, ?_, h60, ?_, fun _ => ?_, ?_⟩
        · simp only [openedBook]; omega
        · simp only [openedBook]; omega
        · simp only [openedBook]; omega
        · simp only [openedBook]; omega
        · simp [openedBook]
      · rw [hpocket]
        refine ⟨fun hk => by simp [openedBook] at hk, fun hk => ?_⟩
        obtain ⟨b, hbm, hbn⟩ := hp.holder k _ hk
        exact absurd hbn (hnew b hbm)
  · rw [hqueue, List.mem_append, List.mem_singleton] at he
    rcases he with he | rfl
    · obtain ⟨b, hbm, hbn⟩ := hp.entry e he hv
      exact ⟨b, hold hbm, hbn⟩
    · exact ⟨p.openedBook f h, by rw [hrec]; simp, rfl⟩
  · rw [hpocket] at hk
    obtain ⟨b, hbm, hbn⟩ := hp.holder k n hk
    exact ⟨b, hold hbm, hbn⟩
  · rw [hend, hp.ends.2]
    constructor
    · rintro ⟨b, hbm, hi, hs⟩
      exact ⟨b, hold hbm, hi, hs⟩
    · rintro ⟨b, hbm, hi, hs⟩
      rw [hrec, List.mem_append, List.mem_singleton] at hbm
      rcases hbm with hbm | rfl
      · exact ⟨b, hbm, hi, hs⟩
      · simp [openedBook] at hs
  · rw [hsend] at hs
    obtain ⟨i, b, hi, hbi, h0⟩ := hp.notice hs
    refine ⟨i, b, by rwa [hend], ?_, h0⟩
    unfold recordById? at hbi ⊢
    rw [hrec, List.find?_append, hbi]
    rfl

/-! ### The reports and the notices -/

/-- An entry leaves its book's in-queue count (R36). -/
def leaveQueue (b : Book) : Book := { b with inQueue := b.inQueue - 1 }

theorem kept_freeHead {p : Part} (hp : p.Kept) (hc : p.CloserAgrees) (hs : p.port.sending = none) :
    p.freeHead.Kept ∧ p.freeHead.CloserAgrees := by
  unfold freeHead
  cases hq : p.tracker.queue with
  | nil => exact ⟨hp, hc⟩
  | cons e rest =>
    dsimp only
    have hopen (n : Nat) : p.openOf n = (rest.countP (countsOpen n)) + if countsOpen n e then 1 else 0 := by
      rw [openOf_eq, hq, List.countP_cons]
    have hin (n : Nat) : p.inQueueOf n = (rest.countP (countsIn n)) + if countsIn n e then 1 else 0 := by
      rw [inQueueOf_eq, hq, List.countP_cons]
    split
    · next hv =>
      have hout (n : Nat) : countsIn n e = false := by simp [countsIn, hv]
      refine ⟨hp.queue rfl rfl le_rfl (.inl rfl) (fun k => pocket_congr rfl rfl k) rfl (fun n => ?_) (fun n => ?_)
        (fun x hx hxv => ⟨x, by rw [hq]; exact List.mem_cons_of_mem e hx, hxv, rfl⟩),
        hc.same rfl rfl (fun k => pocket_congr rfl rfl k) rfl⟩
      · rw [hopen]
        exact Nat.le_add_right _ _
      · rw [hin, hout]
        rfl
    · next hv =>
      have hvf : e.isVoid = false := by simpa using hv
      obtain ⟨b, hbm, hbn⟩ := hp.entry e (by simp [hq]) hvf
      have hb := hp.book?_iff.2 ⟨hbm, hbn⟩
      change (((p.onTracker fun t => { t with queue := rest }).updateBook e.book leaveQueue).endTest e.book).Kept ∧
        (((p.onTracker fun t => { t with queue := rest }).updateBook e.book leaveQueue).endTest e.book).CloserAgrees
      generalize hqq : ((p.onTracker fun t => { t with queue := rest }).updateBook e.book leaveQueue) = q
      have hqueue : q.tracker.queue = rest := by rw [← hqq]; rfl
      have hrec : q.books.records = p.books.records.map fun x => if x.number = e.book then leaveQueue x else x := by
        rw [← hqq]; rfl
      have hend : q.books.endOrder = p.books.endOrder := by rw [← hqq]; rfl
      have hpocket (k : PocketId) : q.pocket k = p.pocket k := by rw [← hqq]; exact pocket_congr rfl rfl k
      have hid (x : Book) : (if x.number = e.book then leaveQueue x else x).id = x.id := by split <;> rfl
      have hkept : q.Kept := by
        refine hp.update hb (g := leaveQueue) (fun _ => ⟨rfl, rfl⟩) hrec (by rw [← hqq]; rfl) (.of_eq hpocket)
          (fun m hm => ?_) ⟨?_, ?_, ?_⟩
          (fun x hx hxv => .inr ⟨x, by rw [hq]; exact List.mem_cons_of_mem e (hqueue ▸ hx), hxv, rfl⟩)
          (hp.listed.congr (by rw [← hqq]; rfl) fun k => by rw [hpocket])
          (hp.ends.map hrec hid (fun x _ => by split <;> rfl) hend) ?_
        · have hm' : ¬ e.book = m := fun h => hm h.symm
          rw [hopen m, hin m, openOf_eq, inQueueOf_eq, hqueue]
          simp [countsOpen, countsIn, hm']
        · obtain ⟨hsum, hae, hmax, hiq, hopened, hadm, hgat, hended, hrest⟩ := (hp.fits b hbm).sound
          have ho : q.openOf b.number ≤ p.openOf b.number := by
            rw [hopen, openOf_eq, hqueue]
            exact Nat.le_add_right _ _
          have hi : p.inQueueOf b.number = q.inQueueOf b.number + 1 := by
            rw [hin, inQueueOf_eq, hqueue, if_pos (by simp [countsIn, hvf, hbn])]
          refine ⟨?_, hae, hmax, ?_, hopened, hadm, hgat, fun h => ?_, hrest⟩
          · simp only [leaveQueue]; omega
          · simp only [leaveQueue]; omega
          · have := hended h
            simp only [leaveQueue]; omega
        · exact fun k => by rw [hpocket]; exact (hp.fits b hbm).link k
        · exact fun k => by rw [hpocket]; exact (hp.fits b hbm).holder k
        · intro hq'
          have hnone : q.port.sending = none := by rw [← hqq]; exact hs
          simp [hnone] at hq'
      have hagrees : q.CloserAgrees :=
        hc.congr (by rw [← hqq]; rfl) (by rw [← hqq]; rfl) (fun k _ => hpocket k) fun k n c _ _ hcb => by
          have hfound := book?_map hrec (fun x => by split <;> rfl) n
          rw [hcb, Option.map_some] at hfound
          exact ⟨_, hfound, by split <;> rfl⟩
      exact ⟨hkept.endTest e.book, CloserAgrees.endTest hkept hagrees e.book⟩

theorem kept_freeRecord {p : Part} (hp : p.Kept) (hc : p.CloserAgrees) {x : Sending} (hx : p.port.sending = some x)
    (ho : x.owner = .bookDone) :
    (p.onPort fun y => { y with sending := none }).freeRecord.Kept ∧
      (p.onPort fun y => { y with sending := none }).freeRecord.CloserAgrees := by
  obtain ⟨i, b, hi, hb, h0⟩ := hp.notice (by simp [hx, ho])
  obtain ⟨hbm, hbi⟩ := hp.recordById?_iff.1 hb
  obtain ⟨rest, hend⟩ : ∃ rest, p.books.endOrder = i :: rest := by
    cases hl : p.books.endOrder with
    | nil => simp [hl] at hi
    | cons j rest => exact ⟨rest, by simpa [hl] using hi⟩
  have hended : b.state = .ended := by
    obtain ⟨y, hy, hyi, hys⟩ := (hp.ends.2 i).1 (by simp [hend])
    rwa [← hp.same_id hbm hy (hbi.trans hyi.symm)] at hys
  generalize hq : (p.onPort fun y => { y with sending := none }).freeRecord = q
  have hrec : q.books.records = p.books.records.filter fun y => y.id != i := by
    rw [← hq]; simp [freeRecord, hend]
  have hend' : q.books.endOrder = rest := by rw [← hq]; simp [freeRecord, hend]
  have htracker : q.tracker = p.tracker := by rw [← hq]; rfl
  have hcloser : q.closer = p.closer := by rw [← hq]; rfl
  have hsend : q.port.sending = none := by rw [← hq]; rfl
  have hpocket (k : PocketId) : q.pocket k = p.pocket k := pocket_congr (by rw [hcloser]) (by rw [hcloser]) k
  have hcount (n : Nat) : q.openOf n = p.openOf n ∧ q.inQueueOf n = p.inQueueOf n := by
    simp only [openOf, inQueueOf, htracker, and_self]
  have hmem (y : Book) : y ∈ q.books.records ↔ y ∈ p.books.records ∧ y.id ≠ i := by
    rw [hrec, List.mem_filter, bne_iff_ne]
  have hne {y : Book} (hym : y ∈ p.books.records) (hyb : y ≠ b) : y ∈ q.books.records :=
    (hmem y).2 ⟨hym, fun h => hyb (hp.same_id hym hbm (h.trans hbi.symm))⟩
  have hkept : q.Kept := by
    refine ⟨?_, ?_, fun y hy => ?_, fun y hy => ?_, fun e he hv => ?_, by simpa only [hpocket] using hp.free,
      fun k n hk => ?_, hp.listed.congr (by rw [hcloser]) fun k => by rw [hpocket], ⟨?_, fun j => ?_⟩, ?_⟩
    · rw [hrec]
      exact hp.numbers.sublist (List.filter_sublist.map _)
    · rw [hrec]
      exact hp.ids.sublist (List.filter_sublist.map _)
    · rw [htracker]
      exact hp.fresh y ((hmem y).1 hy).1
    · have hfit := hp.fits y ((hmem y).1 hy).1
      exact ⟨hfit.sound.congr (hcount _).1 (hcount _).2, by simpa only [hpocket] using hfit.link,
        by simpa only [hpocket] using hfit.holder⟩
    · rw [htracker] at he
      obtain ⟨y, hym, hyn⟩ := hp.entry e he hv
      refine ⟨y, hne hym ?_, hyn⟩
      rintro rfl
      obtain ⟨-, -, -, hiq, -⟩ := (hp.fits y hym).sound
      have hpos : 1 ≤ p.inQueueOf y.number := List.countP_pos_iff.2 ⟨e, he, by simp [hv, hyn]⟩
      omega
    · rw [hpocket] at hk
      obtain ⟨y, -, hym, hyn, -, hhold⟩ := hp.held hk
      refine ⟨y, hne hym ?_, hyn⟩
      rintro rfl
      rw [hended] at hhold
      cases hst : (p.pocket k).state <;> simp [hst, holders] at hhold
    · rw [hend']
      have := hp.ends.1
      rw [hend] at this
      exact (List.nodup_cons.1 this).2
    · have hnodup := hp.ends.1
      rw [hend, List.nodup_cons] at hnodup
      have hall := hp.ends.2 j
      rw [hend, List.mem_cons] at hall
      rw [hend']
      constructor
      · intro hj
        obtain ⟨y, hym, hyi, hys⟩ := hall.1 (.inr hj)
        exact ⟨y, (hmem y).2 ⟨hym, fun h => hnodup.1 (by rw [← h, hyi]; exact hj)⟩, hyi, hys⟩
      · rintro ⟨y, hyq, hyi, hys⟩
        obtain ⟨hym, hyne⟩ := (hmem y).1 hyq
        exact (hall.2 ⟨y, hym, hyi, hys⟩).resolve_left fun h => hyne (hyi.trans h)
    · intro hs
      simp [hsend] at hs
  refine ⟨hkept, hc.congr (by rw [hcloser]) (by rw [hcloser]) (fun k _ => hpocket k) fun k n c hk hn hcb => ?_⟩
  obtain ⟨-, hcs⟩ := hp.closer_book hk hn hcb
  obtain ⟨hcm, hcn⟩ := hp.book?_iff.1 hcb
  refine ⟨c, hkept.book?_iff.2 ⟨hne hcm ?_, hcn⟩, rfl⟩
  rintro rfl
  rcases hcs with hcs | hcs <;> simp [hcs] at hended

/-- A notice is sent only while the head entry is not DONE: by the order of the stages no entry is, and an ENDED book
has none to come. -/
theorem kept_send {p : Part} (hp : p.Kept) (ho : p.StagesInOrder) (x : Sending)
    (hx : x.owner = .bookDone → (∀ e ∈ p.tracker.queue.head?, e.stage ≠ .done) ∧
      ∃ i b, p.books.endOrder.head? = some i ∧ p.recordById? i = some b) :
    (p.onPort fun y => { y with sending := some x }).Kept := by
  refine ⟨hp.numbers, hp.ids, hp.fresh, fun b hb => ⟨(hp.fits b hb).sound, (hp.fits b hb).link, (hp.fits b hb).holder⟩,
    hp.entry, hp.free, hp.holder, hp.listed, hp.ends, fun hs => ?_⟩
  obtain ⟨hhead, i, b, hi, hb⟩ := hx (by simpa using hs)
  refine ⟨i, b, hi, hb, ?_⟩
  obtain ⟨hbm, hbi⟩ := hp.recordById?_iff.1 hb
  have hended : b.state = .ended := by
    obtain ⟨y, hy, hyi, hys⟩ := (hp.ends.2 i).1 (List.mem_of_mem_head? hi)
    rwa [← hp.same_id hbm hy (hbi.trans hyi.symm)] at hys
  obtain ⟨-, -, -, hiq, -, -, -, hopen, -⟩ := (hp.fits b hbm).sound
  have hnone := hopen hended
  have halive : ∀ e ∈ p.tracker.queue, e.stage ≠ .done := by
    cases hq : p.tracker.queue with
    | nil => simp
    | cons e rest =>
      have horder := ho.1
      rw [hq, List.pairwise_cons] at horder
      have he : e.stage ≠ .done := hhead e (by simp [hq])
      intro y hy hys
      rcases List.mem_cons.1 hy with rfl | hy
      · exact he hys
      · have hle := horder.1 y hy
        rw [hys] at hle
        exact he (Stage.code_injective (le_antisymm (Stage.code_le_done _) hle))
  have hsame : p.inQueueOf b.number = p.openOf b.number := by
    rw [inQueueOf_eq, openOf_eq, countsOpen_eq]
    exact List.countP_congr fun e he => by simp [halive e he]
  omega

/-! ### A grant, an amend, a link reset -/

theorem freePocket_free {p : Part} {k : PocketId} (h : p.freePocket = some k) : (p.pocket k).state = .free := by
  unfold freePocket at h
  split at h
  · next ha => cases h; exact ha
  · split at h
    · next hb => cases h; exact hb
    · cases h

theorem kept_grant {p : Part} (hp : p.Kept) (hc : p.CloserAgrees) {k : PocketId} {e : Entry} {b : Book}
    (he : e ∈ p.tracker.queue) (hs : e.stage = .atGate) (hv : e.isVoid = false) (hb : p.book? e.book = some b)
    (hn : b.state ≠ .spoiled) (hpk : b.pocket = none) (hk : p.freePocket = some k) :
    (p.grant k e.book).Kept ∧ (p.grant k e.book).CloserAgrees := by
  obtain ⟨hbm, hbn⟩ := hp.book?_iff.1 hb
  have hfit := hp.fits b hbm
  have hfree := freePocket_free hk
  have hnone := (hp.free k).1 hfree
  have hstate : b.state = .opened ∨ b.state = .filled := by
    rcases hfit.sound.state_of_open (openOf_pos he hv (by simp [hs]) hbn.symm) with h | h | h
    · exact .inl h
    · exact .inr h
    · exact absurd h hn
  have hpocket (j : PocketId) : (p.grant k e.book).pocket j = if j = k then ⟨.gathering, some e.book⟩ else p.pocket j := by
    unfold grant
    rw [pocket_updateBook, pocket_setPocket]
  have hown (j : PocketId) : (p.pocket j).book ≠ some e.book := fun h => by
    have := (hfit.link j).2 (by rw [hbn]; exact h)
    simp [hpk] at this
  have hrec : (p.grant k e.book).books.records =
      p.books.records.map fun x => if x.number = e.book then { x with pocket := some k } else x := by
    simp [Part.grant, updateBook]
  refine ⟨hp.change hb (g := fun x => { x with pocket := some k }) (fun _ => ⟨rfl, rfl, rfl⟩) hrec
    (by rcases hstate with h | h <;> simp [h]) ?_ (by simp) (by simp) (fun j => ?_) hfit.sound (fun j => ?_) (fun j hj => ?_)
    (hp.listed.congr (by simp [Part.grant]) fun j => ?_), hc.congr ?_ ?_ (fun j hj => ?_) fun j n c _ _ hcb => ?_⟩
  · rcases hstate with h | h <;> simp [h, Part.grant, updateBook]
  · by_cases hj : j = k
    · refine .inr ⟨?_, ?_, ?_⟩
      · rw [hj, hnone]; simp
      · rw [hpocket, if_pos hj]; exact fun m hm => (Option.some.inj hm).symm
      · rw [hpocket, if_pos hj]; simp
    · exact .inl (by rw [hpocket, if_neg hj])
  · rw [hpocket]
    by_cases hj : j = k
    · simp [hj]
    · simp [hj, Ne.symm hj, hown j]
  · have hjk : j = k := (Option.some.inj hj).symm
    rw [hpocket, if_pos hjk]
    rcases hstate with h | h <;> simp [h, holders]
  · rw [hpocket]
    split
    · next hj => simp [hj, hfree, waitsForCloser]
    · rfl
  · cases k <;> rfl
  · cases k <;> rfl
  · rw [hpocket, if_neg]
    rintro rfl
    simp [hfree] at hj
  · have hfound := book?_map hrec (fun x => by split <;> rfl) n
    rw [hcb, Option.map_some] at hfound
    exact ⟨_, hfound, by split <;> rfl⟩

theorem kept_amend {p : Part} (hp : p.Kept) (hc : p.CloserAgrees) (b : Book) (loops : Nat) :
    (p.amend b loops).Kept ∧ (p.amend b loops).CloserAgrees := by
  have hrec : (p.amend b loops).books.records = p.books.records.map fun x =>
      if x.number = b.number then { x with loopCount := loops, generation := x.generation + 1 } else x := rfl
  have hcloser : (p.amend b loops).closer.state = p.closer.state ∧ (p.amend b loops).closer.current = p.closer.current ∧
      (p.amend b loops).closer.pocketA = p.closer.pocketA ∧ (p.amend b loops).closer.pocketB = p.closer.pocketB ∧
      (p.amend b loops).closer.requests = p.closer.requests := by
    simp only [Part.amend, onCloser_fields]
    repeat' split
    all_goals exact ⟨rfl, rfl, rfl, rfl, rfl⟩
  obtain ⟨hst, hcur, hpa, hpb, hreq⟩ := hcloser
  have hpocket (k : PocketId) : (p.amend b loops).pocket k = p.pocket k := pocket_congr hpa hpb k
  refine ⟨hp.map hrec (fun x => by split <;> exact ⟨rfl, rfl⟩) le_rfl (fun x hx => ?_) hp.entry
    (by simpa only [hpocket] using hp.free) (by simpa only [hpocket] using hp.holder)
    (hp.listed.congr hreq fun k => by rw [hpocket]) (hp.ends.map hrec (fun x => by split <;> rfl)
      (fun x _ => by split <;> rfl) rfl)
    (hp.notice.map hrec (fun x => by split <;> rfl) (fun _ x _ _ h0 => by split <;> exact h0) (fun _ => id) (.inl rfl)),
    hc.congr hst hcur (fun k _ => hpocket k) fun _ n c _ _ hcb => ?_⟩
  · have hfit := hp.fits x hx
    split
    · exact ⟨hfit.sound, by simpa only [hpocket] using hfit.link, by simpa only [hpocket] using hfit.holder⟩
    · exact ⟨hfit.sound, by simpa only [hpocket] using hfit.link, by simpa only [hpocket] using hfit.holder⟩
  · have hfound := book?_map hrec (fun x => by split <;> rfl) n
    rw [hcb, Option.map_some] at hfound
    exact ⟨_, hfound, by split <;> rfl⟩

theorem resetBook_of_ended {b : Book} (h : b.state = .ended) : resetBook b = b := by
  unfold resetBook
  rw [if_pos h]

theorem resetBook_fields (b : Book) : (resetBook b).number = b.number ∧ (resetBook b).id = b.id ∧
    (resetBook b).inQueue = b.inQueue ∧ (resetBook b).state = .ended := by
  unfold resetBook
  split
  · next h => exact ⟨rfl, rfl, rfl, h⟩
  · dsimp only
    split <;> exact ⟨rfl, rfl, rfl, rfl⟩

theorem resetBook_pocket {b : Book} (h : b.state ≠ .ended) : (resetBook b).pocket = none := by
  unfold resetBook
  rw [if_neg h]
  dsimp only
  split
  · rfl
  · next hp => simpa [Book.enter] using hp

theorem RecordSound.resetBook {p q : Part} {b : Book} (h : p.RecordSound b) (ho : q.openOf b.number = 0)
    (hi : q.inQueueOf b.number = p.inQueueOf b.number) : q.RecordSound (resetBook b) := by
  obtain ⟨hsum, hae, hmax, hiq, hopened, hadm, hgat, hended, hout, hspoil⟩ := h
  unfold Part.resetBook
  split
  · next hs => exact ⟨by omega, hae, hmax, by omega, hopened, hadm, hgat, fun _ => ho, hout, hspoil⟩
  · next hs =>
    have hmoved : ∀ c : Book, c.number = b.number → c.admitted = b.admitted → c.inQueue = b.inQueue →
        c.spoilReason = b.spoilReason → c.gathered + c.diverted + c.lost = b.gathered + b.diverted + b.lost →
        q.RecordSound { c.enter .ended with
          expected := c.admitted, outcome := some .spoiled, spoilReason := some (c.spoilReason.getD .linkReset) } := by
      intro c hn ha hq _ hsum'
      refine ⟨?_, le_rfl, ?_, ?_, ?_, fun _ => rfl, ?_, fun _ => ?_, ?_, ?_⟩
      · simp only [Book.enter, hn, ha]; omega
      · simp only [ha]; omega
      · simp only [Book.enter, hn, hq]; omega
      · simp [Book.enter]
      · simp [Book.enter]
      · simp only [Book.enter, hn, ho]
      · simp [Book.enter]
      · simp [Book.enter]
    dsimp only
    split
    · exact hmoved { b with lost := b.lost + b.gathered, gathered := 0, pocket := none } rfl rfl rfl rfl
        (by dsimp only; omega)
    · exact hmoved b rfl rfl rfl rfl rfl

theorem linkReset_books (p : Part) :
    p.linkReset.books.records = p.books.records.map resetBook ∧
    p.linkReset.books.endOrder =
      p.books.endOrder ++ (p.books.records.filter fun b => b.state != .ended).map Book.id := by
  obtain ⟨-, -, hb⟩ := resetCloser_before p
  have hbooks : p.resetSup.haltPunch.haltDrill.resetCloser.resetTracker.books = p.books := by
    unfold resetTracker
    simp only [onTracker_fields, finishAll_flushed_books, hb]
  constructor
  · exact congrArg (fun t : BookTable => t.records.map resetBook) hbooks
  · exact congrArg (fun t : BookTable => t.endOrder ++ (t.records.filter fun b => b.state != .ended).map Book.id) hbooks

theorem linkReset_closer (p : Part) :
    p.linkReset.closer.state = .idle ∧ p.linkReset.closer.current = none ∧ p.linkReset.closer.requests = [] ∧
    ∀ k, p.linkReset.pocket k = ⟨.free, none⟩ := by
  have hcloser : p.linkReset.closer = p.resetSup.haltPunch.haltDrill.resetCloser.closer :=
    finishAll_closer _ (o := .flushed) (by simp) _
  unfold pocket
  rw [hcloser]
  refine ⟨rfl, rfl, rfl, fun k => ?_⟩
  cases k <;> rfl

theorem kept_linkReset {p : Part} (hp : p.Kept) : p.linkReset.Kept ∧ p.linkReset.CloserAgrees := by
  obtain ⟨hrec, hend⟩ := linkReset_books p
  obtain ⟨hidle, hcur, hreq, hpocket⟩ := linkReset_closer p
  have htracker := linkReset_tracker p
  have hqueue : p.linkReset.tracker.queue =
      p.tracker.queue.map fun e => if e.stage != .done then e.finish .flushed else e := by rw [htracker]
  have hcount (n : Nat) := openOf_finishes (pick := fun st => st != .done) rfl hqueue n
  have hopen (n : Nat) : p.linkReset.openOf n = 0 := by
    refine List.countP_eq_zero.2 fun e he hc => ?_
    rw [hqueue] at he
    obtain ⟨x, -, rfl⟩ := List.mem_map.1 he
    by_cases hx : x.stage = .done <;> simp [hx, Entry.finish] at hc
  have hid (b : Book) : (resetBook b).id = b.id := (resetBook_fields b).2.1
  refine ⟨hp.map hrec (fun b => ⟨(resetBook_fields b).1, hid b⟩) (by rw [htracker]) (fun b hb => ⟨?_, fun k => ?_, ?_⟩)
    (fun e he hv => ?_) (fun k => by simp [hpocket]) (fun k n hk => by simp [hpocket] at hk)
    ⟨by simp [hreq], fun k => by simp [hreq, hpocket, waitsForCloser]⟩ ⟨?_, fun i => ?_⟩
    (hp.notice.map hrec hid (fun _ b _ _ h0 => by rw [(resetBook_fields b).2.2.1, h0])
      (fun i hi => by rw [hend, List.head?_append, hi]; rfl) (.inl (by rw [linkReset_port]))), .of_idle hidle hcur⟩
  · exact (hp.fits b hb).sound.resetBook (hopen _) (hcount _).2
  · have hnone : (resetBook b).pocket = none := by
      by_cases hs : b.state = .ended
      · rw [resetBook_of_ended hs]
        cases hpk : b.pocket with
        | none => rfl
        | some j =>
          have hhold := (hp.fits b hb).holder j hpk
          rw [hs] at hhold
          cases hst : (p.pocket j).state <;> simp [hst, holders] at hhold
      · exact resetBook_pocket hs
    simp [hnone, hpocket]
  · intro k hk
    by_cases hs : b.state = .ended
    · rw [resetBook_of_ended hs] at hk ⊢
      have hhold := (hp.fits b hb).holder k hk
      rw [hs] at hhold
      cases hst : (p.pocket k).state <;> simp [hst, holders] at hhold
    · simp [resetBook_pocket hs] at hk
  · obtain ⟨x, hx, hxv, hxe⟩ := entries_finishes (pick := fun st => st != .done) hqueue e he hv
    exact hxe ▸ hp.entry x hx hxv
  · rw [hend]
    refine List.nodup_append.2 ⟨hp.ends.1, hp.ids.sublist (List.filter_sublist.map _), fun a ha c hc hac => ?_⟩
    obtain ⟨y, hy, rfl⟩ := List.mem_map.1 hc
    obtain ⟨hym, hys⟩ := List.mem_filter.1 hy
    obtain ⟨z, hz, hzi, hzs⟩ := (hp.ends.2 a).1 ha
    rw [hp.same_id hz hym (hzi.trans hac)] at hzs
    simp [hzs] at hys
  · rw [hend, hrec, List.mem_append, hp.ends.2]
    simp only [List.mem_map, List.mem_filter]
    constructor
    · rintro (⟨b, hb, hi, hs⟩ | ⟨b, ⟨hb, -⟩, hi⟩)
      · exact ⟨resetBook b, ⟨b, hb, rfl⟩, by rw [hid, hi], (resetBook_fields b).2.2.2⟩
      · exact ⟨resetBook b, ⟨b, hb, rfl⟩, by rw [hid, hi], (resetBook_fields b).2.2.2⟩
    · rintro ⟨_, ⟨b, hb, rfl⟩, hi, -⟩
      rw [hid] at hi
      by_cases hs : b.state = .ended
      · exact .inl ⟨b, hb, hi, hs⟩
      · exact .inr ⟨b, ⟨hb, by simpa using hs⟩, hi⟩

/-! ### Every move -/

theorem kept_move {p q : Part} (h : Move p q) (ho : p.StagesInOrder) (hp : p.Kept) (hc : p.CloserAgrees) :
    q.Kept ∧ q.CloserAgrees := by
  have frame {q : Part} (hb : q.books = p.books) (ht : q.tracker = p.tracker) (hport : q.port = p.port)
      (hcl : q.closer = p.closer) : q.Kept ∧ q.CloserAgrees := by
    have hpocket (k : PocketId) : q.pocket k = p.pocket k := pocket_congr (by rw [hcl]) (by rw [hcl]) k
    exact ⟨hp.same (by rw [hb]) (by rw [hb]) (by rw [ht]) (by rw [ht]) (.inl (by rw [hport])) hpocket (by rw [hcl]),
      hc.same (by rw [hcl]) (by rw [hcl]) hpocket (by rw [hb])⟩
  cases h with
  | alike h =>
    have hpocket (k : PocketId) : q.pocket k = p.pocket k := pocket_congr h.pocketA h.pocketB k
    exact ⟨hp.same (by rw [h.books]) (by rw [h.books]) h.queue h.nextId h.sending hpocket h.requests,
      hc.same h.closerState h.current hpocket (by rw [h.books])⟩
  | clock f => exact frame rfl rfl rfl rfl
  | service f => exact frame rfl rfl rfl rfl
  | pattern n d h => exact frame (by simp) (by simp) (by simp) (by simp)
  | run h => exact frame rfl rfl rfl rfl
  | stop f =>
    obtain ⟨hp', hc'⟩ : (p.onTimebase f).Kept ∧ (p.onTimebase f).CloserAgrees := frame rfl rfl rfl rfl
    exact kept_stopAll hp' hc'
  | advance a b f hf hab hb =>
    exact ⟨kept_advance hp hf hab hb, hc.same (by simp) (by simp) (fun k => pocket_congr (by simp) (by simp) k) (by simp)⟩
  | land l e ho => exact kept_land hp hc l ho
  | push t f r =>
    obtain ⟨-, -, hbooks, -, -, hcloser, -⟩ := pushEntry_frame t f (some r) p
    exact ⟨kept_push hp t f r, hc.same (by rw [hcloser]) (by rw [hcloser])
      (fun k => pocket_congr (by rw [hcloser]) (by rw [hcloser]) k) (by rw [hbooks])⟩
  | continues t f b hq hb ha => exact kept_continues hp hc t f hb ha
  | opens t f h hq hb hr h2 h60 => exact kept_opens hp hc t f h hb h2 h60
  | mark m =>
    refine ⟨kept_mark hp m, ?_⟩
    unfold markEntry
    split
    · exact hc
    · exact hc.same rfl rfl (fun k => pocket_congr rfl rfl k) rfl
  | freeHead x =>
    exact kept_freeHead (hp.same rfl rfl rfl rfl (.inr rfl) (fun k => pocket_congr rfl rfl k) rfl)
      (hc.same rfl rfl (fun k => pocket_congr rfl rfl k) rfl) rfl
  | freeRecord x hx ho => exact kept_freeRecord hp hc hx ho
  | send x hr hb => exact ⟨kept_send hp ho x hb, hc.same rfl rfl (fun k => pocket_congr rfl rfl k) rfl⟩
  | spoil n why lower h => exact ⟨hp.spoil n why lower, hc.spoil hp n why lower (.inl h)⟩
  | fail c h => exact kept_fail hp hc c h
  | closerStep st w h h' =>
    have hpocket (k : PocketId) : (p.enterCloser st w).pocket k = p.pocket k := pocket_enterCloser st w k p
    obtain ⟨cur, b, hcur, hown, hb, hbind, -, -⟩ := hc.2 (by rintro hs; simp [hs, bindState] at h)
    refine ⟨hp.same rfl rfl rfl rfl (.inl rfl) hpocket rfl, fun hi => ?_, fun _ => ⟨cur, b, hcur, ?_, hb, ?_, ?_, ?_⟩⟩
    · have hst : st = .idle := hi
      simp [hst, bindState] at h'
    · rw [hpocket]; exact hown
    · rw [hpocket]; exact fun _ => hbind h
    · intro hd
      have hst : st = .dump := hd
      simp [hst, bindState] at h'
    · intro hf
      have hst : st = .fault := hf
      simp [hst, bindState] at h'
  | take k h => exact kept_take hp h
  | eject h => exact kept_eject hp hc h
  | dump h => exact kept_dump hp hc h
  | clear => exact kept_clear hp hc
  | grant k e b he hs hv hb hn hpk hk => exact kept_grant hp hc he hs hv hb hn hpk hk
  | amend b loops => exact kept_amend hp hc b loops
  | flush h =>
    exact ⟨kept_finishFlushed hp (pick := fun st => st == .waiting) rfl, hc.finishAll _ (.inr rfl)⟩
  | linkReset => exact kept_linkReset hp

end Part

/-- What O58 and O59 keep together. -/
def Part.Agrees (p : Part) : Prop := p.StagesInOrder ∧ p.Kept ∧ p.CloserAgrees

/-- A part with an empty queue, no records and an idle closer. -/
theorem Part.agrees_of_empty {p : Part} (hq : p.tracker.queue = []) (hb : p.books = ⟨[], [], none⟩)
    (hpocket : ∀ k, p.pocket k = ⟨.free, none⟩) (hr : p.closer.requests = []) (hs : p.port.sending = none)
    (hi : p.closer.state = .idle) (hc : p.closer.current = none) : p.Agrees := by
  refine ⟨⟨by rw [hq]; exact .nil, by simp [hq]⟩, ⟨by simp [hb], by simp [hb], by simp [hb], by simp [hb], by simp [hq],
    fun k => by simp [hpocket], fun k n hk => by simp [hpocket] at hk, ⟨by simp [hr], fun k => ?_⟩,
    ⟨by simp [hb], by simp [hb]⟩, by simp [Part.NoticeSound, hs]⟩, .of_idle hi hc⟩
  simp [hr, hpocket, Part.waitsForCloser]

theorem agrees_step {s t : State} (h : s.toPart.Agrees) (hs : step s = .next t) : t.toPart.Agrees :=
  step_keeps (P := Part.Agrees) (fun _ _ hm ⟨ho, hp, hc⟩ => ⟨Part.stagesInOrder_move hm ho, Part.kept_move hm ho hp hc⟩)
    (fun _ _ _ => Part.agrees_of_empty rfl rfl (fun k => by cases k <;> rfl) rfl rfl rfl rfl) h hs

/-- Settles O58: kept together with what O59 says of the books. -/
theorem stepKeepsPocketsHeld : Obligations.StepKeepsPocketsHeld := by
  intro s t hp hb ho hs
  obtain ⟨hk, hc⟩ := Part.kept_of_claims hp hb
  obtain ⟨-, hk', hc'⟩ := agrees_step ⟨ho, hk, hc⟩ hs
  exact (Part.claims_of_kept hk' hc').1

/-- Settles O59: kept together with what O58 says of the pockets. -/
theorem stepKeepsBooksSound : Obligations.StepKeepsBooksSound := by
  intro s t hp hb ho hs
  obtain ⟨hk, hc⟩ := Part.kept_of_claims hp hb
  obtain ⟨-, hk', hc'⟩ := agrees_step ⟨ho, hk, hc⟩ hs
  exact (Part.claims_of_kept hk' hc').2

end Sys2Proof.Machine
end

section
/-! SUPPORT. The reset values, block by block. -/

namespace Sys2Proof.Machine

namespace Part

theorem reset_pattern? {n : Nat} (hn : n < 64) :
    Part.reset.pattern? n = (if n = 0 then some ⟨.any, [], false, []⟩ else none) ∧ Part.reset.useCount n = 0 := by
  unfold pattern? useCount
  rw [dif_pos hn, dif_pos hn]
  interval_cases n <;> exact ⟨rfl, rfl⟩

theorem reset_coilHealth (c : Nat) : Part.reset.coilHealth c = .ok := by
  unfold coilHealth
  split
  · exact Vector.getElem_replicate _
  · rfl

end Part

/-- Settles O2: by evaluation of the reset state; the pattern table and the coils entry by entry. -/
theorem resetValues : Obligations.ResetValues := by
  have hspindle (i : Idx4) : (Part.reset.spindle i).state = .idle ∧ (Part.reset.spindle i).copy = none ∧
      (Part.reset.spindle i).passes = 0 ∧ (Part.reset.spindle i).timedOut = false ∧
      Part.reset.feedCommandDown i = false ∧ Part.reset.drill.profiles.get i = ⟨.oneShot, 2, 400, 50, 400⟩ ∧
      Part.reset.drill.map.get i = i := by
    cases i <;> exact ⟨rfl, rfl, rfl, rfl, rfl, rfl, rfl⟩
  refine ⟨rfl, rfl, rfl, rfl, rfl, rfl, rfl, fun n hn => Part.reset_pattern? hn, fun c _ _ => Part.reset_coilHealth c, ?_⟩
  refine ⟨rfl, rfl, rfl, rfl, rfl, rfl, rfl, rfl, hspindle, ?_⟩
  decide

/-- Settles O53: the queue, the records and the lists are empty. -/
theorem invariantsHoldAtReset : Obligations.InvariantsHoldAtReset := by
  obtain ⟨horder, hkept, hagrees⟩ : Part.reset.Agrees :=
    Part.agrees_of_empty rfl rfl (fun k => by cases k <;> rfl) rfl rfl rfl rfl
  refine ⟨(Part.reset_pattern? (by decide)).1, fun h => ?_, ?_, fun st _ => Nat.zero_le 1, horder, ⟨fun n hn => ?_, ?_⟩,
    Part.claims_of_kept hkept hagrees⟩
  · exact absurd h (by decide)
  · exact ⟨by decide, by decide, by decide, by decide, by decide, fun r hr => by cases hr⟩
  · exact (Part.reset_pattern? hn).2
  · decide

end Sys2Proof.Machine
end

section
/-! SUPPORT. Power-on and hard reset. -/

namespace Sys2Proof.Machine

namespace Part

/-- What power-on and hard reset leave of a part: the input levels, the sampled address and the power-up flag. -/
structure AfterReset (pins : BitVec 5) (t : Part) : Prop where
  frame : t = { Part.reset with
    port := { Part.reset.port with unitAddress := pins.toNat, downHold := t.port.downHold }
    punch := { Part.reset.punch with dieLines := t.punch.dieLines, ramUpLevel := t.punch.ramUpLevel }
    drill := { Part.reset.drill with spindles := t.drill.spindles }
    closer := { Part.reset.closer with hangerEmpty := t.closer.hangerEmpty }
    stations := { Part.reset.stations with guardsOpen := t.stations.guardsOpen }
    sup := { Part.reset.sup with
      powerUpFlag := t.sup.powerUpFlag, driverHotFlag := t.sup.driverHot, supplyLow := t.sup.supplyLow
      driverShutdown := t.sup.driverShutdown, driverHot := t.sup.driverHot, stopInput := t.sup.stopInput } }
  spindles : ∀ i, t.spindle i = { Part.reset.spindle i with
    downLevel := (t.spindle i).downLevel, upLevel := (t.spindle i).upLevel }

theorem resetTo_afterReset (pins : BitVec 5) (b : Bool) (p : Part) : AfterReset pins (p.resetTo pins b) :=
  ⟨rfl, fun i => by cases i <;> rfl⟩

end Part

/-- Settles O3: both are `resetTo` on the settled part, and every value follows from its frame. -/
theorem powerOnAndHardResetComplete : Obligations.PowerOnAndHardResetComplete := by
  intro s pins
  refine ⟨s.toPart.settle.resetTo pins true, s.toPart.settle.resetTo pins s.toPart.settle.sup.powerUpFlag, rfl, rfl, rfl,
    rfl, fun t ht => ?_⟩
  obtain ⟨b, rfl⟩ : ∃ b, t = s.toPart.settle.resetTo pins b := by
    simp only [List.mem_cons, List.not_mem_nil, or_false] at ht
    rcases ht with rfl | rfl
    · exact ⟨_, rfl⟩
    · exact ⟨_, rfl⟩
  obtain ⟨hframe, hspindles⟩ := Part.resetTo_afterReset pins b s.toPart.settle
  have hcoil (c : Nat) : (s.toPart.settle.resetTo pins b).coilHealth c = .ok := Part.reset_coilHealth c
  refine ⟨hframe, hspindles, rfl, rfl, rfl, rfl, rfl, rfl, rfl, rfl, rfl, rfl, rfl, rfl, rfl, rfl, fun c _ _ => hcoil c, ?_⟩
  refine ⟨rfl, rfl, rfl, rfl, rfl, fun i => ?_, rfl, rfl, rfl, rfl, rfl, rfl, rfl, rfl, rfl, rfl, rfl, rfl, rfl, rfl, rfl,
    rfl, rfl, rfl, rfl, rfl, rfl, rfl, rfl, rfl, rfl⟩
  cases i <;> exact ⟨rfl, rfl, rfl, rfl, rfl⟩

end Sys2Proof.Machine
end

section
/-! SUPPORT. A request row, said once: the head of the command list is answered from the part without it. The reads, and
what is refused whatever the part holds. -/

namespace Sys2Proof.Machine

/-- A row answers every request of its code by one function. -/
def RequestRow (i : Instr) (code : Nat) (f : Ticket → Part → Answer) : Prop :=
  ∀ (s : State) (it : Item), s.toPart.executable = some it → it.ticket.code = code →
    exec i s = .next (s.withPart ((f it.ticket s.toPart.popCommand).part.placeReply it
      (f it.ticket s.toPart.popCommand).result (f it.ticket s.toPart.popCommand).payload))

theorem RequestRow.of {i : Instr} {code : Nat} {f : Ticket → Part → Answer}
    (he : ∀ s, exec i s = request (· == code) s) (hn : code ≠ 21)
    (ha : ∀ t : Ticket, t.code = code → ∀ p : Part, p.answer t = f t p) : RequestRow i code f := by
  intro s it hex hc
  rw [he, request_answer hex (by simp [hc]) (.inl (by rwa [hc])), ha _ hc]

/-- The answer of a row, where the function gives it. -/
theorem RequestRow.gives {i : Instr} {code : Nat} {f : Ticket → Part → Answer} (row : RequestRow i code f) {s : State}
    {it : Item} (hex : s.toPart.executable = some it) (hc : it.ticket.code = code) {q : Part} {r : ResultCode}
    {l : List Byte} (ha : f it.ticket s.toPart.popCommand = ⟨q, r, l⟩) :
    exec i s = .next (s.withPart (q.placeReply it r l)) := by
  rw [row s it hex hc, ha]

theorem readStatusRow : RequestRow .readStatus 1 fun t p => p.answerReadStatus t :=
  .of (fun _ => rfl) (by decide) fun _ h p => Part.answer_readStatus h p
theorem readQueueRow : RequestRow .readQueue 2 fun t p => p.answerReadQueue t :=
  .of (fun _ => rfl) (by decide) fun _ h p => Part.answer_readQueue h p
theorem readBookRow : RequestRow .readBook 3 fun t p => p.answerReadBook t :=
  .of (fun _ => rfl) (by decide) fun _ h p => Part.answer_readBook h p
theorem readPatternRow : RequestRow .readPattern 4 fun t p => p.answerReadPattern t :=
  .of (fun _ => rfl) (by decide) fun _ h p => Part.answer_readPattern h p
theorem readDrillRow : RequestRow .readDrill 5 fun t p => p.answerReadDrill t :=
  .of (fun _ => rfl) (by decide) fun _ h p => Part.answer_readDrill h p
theorem readCloserRow : RequestRow .readCloser 6 fun t p => p.answerReadCloser t :=
  .of (fun _ => rfl) (by decide) fun _ h p => Part.answer_readCloser h p
theorem readHaltRow : RequestRow .readHalt 7 fun t p => p.answerReadHalt t :=
  .of (fun _ => rfl) (by decide) fun _ h p => Part.answer_readHalt h p
theorem runRow : RequestRow .run 16 fun t p => p.answerRun t :=
  .of (fun _ => rfl) (by decide) fun _ h p => Part.answer_run h p
theorem stopRow : RequestRow .stop 17 fun t p => p.answerStop t :=
  .of (fun _ => rfl) (by decide) fun _ h p => Part.answer_stop h p
theorem haltRow : RequestRow .halt 18 fun t p => p.answerHalt t :=
  .of (fun _ => rfl) (by decide) fun _ h p => Part.answer_halt h p
theorem resumeRow : RequestRow .resume 19 fun t p => p.answerResume t :=
  .of (fun _ => rfl) (by decide) fun _ h p => Part.answer_resume h p
theorem clearFaultsRow : RequestRow .clearFaults 20 fun t p => p.answerClearFaults t :=
  .of (fun _ => rfl) (by decide) fun _ h p => Part.answer_clearFaults h p
theorem loadPatternRow : RequestRow .loadPattern 32 fun t p => p.answerLoadPattern t :=
  .of (fun _ => rfl) (by decide) fun _ h p => Part.answer_loadPattern h p
theorem setPunchRow : RequestRow .setPunch 34 fun t p => p.answerSetPunch t :=
  .of (fun _ => rfl) (by decide) fun _ h p => Part.answer_setPunch h p
theorem setProfileRow : RequestRow .setProfile 35 fun t p => p.answerSetProfile t :=
  .of (fun _ => rfl) (by decide) fun _ h p => Part.answer_setProfile h p
theorem mapSpindlesRow : RequestRow .mapSpindles 36 fun t p => p.answerMapSpindles t :=
  .of (fun _ => rfl) (by decide) fun _ h p => Part.answer_mapSpindles h p
theorem setCloserRow : RequestRow .setCloser 37 fun t p => p.answerSetCloser t :=
  .of (fun _ => rfl) (by decide) fun _ h p => Part.answer_setCloser h p
theorem setTimebaseRow : RequestRow .setTimebase 38 fun t p => p.answerSetTimebase t :=
  .of (fun _ => rfl) (by decide) fun _ h p => Part.answer_setTimebase h p
theorem startTimebaseRow : RequestRow .startTimebase 39 fun t p => p.answerStartTimebase t :=
  .of (fun _ => rfl) (by decide) fun _ h p => Part.answer_startTimebase h p
theorem stationsRow : RequestRow .stations 40 fun t p => p.answerStations t :=
  .of (fun _ => rfl) (by decide) fun _ h p => Part.answer_stations h p
theorem serviceRow : RequestRow .service 41 fun t p => p.answerService t :=
  .of (fun _ => rfl) (by decide) fun _ h p => Part.answer_service h p
theorem setLineRow : RequestRow .setLine 42 fun t p => p.answerSetLine t :=
  .of (fun _ => rfl) (by decide) fun _ h p => Part.answer_setLine h p
theorem amendBookRow : RequestRow .amendBook 48 fun t p => p.answerAmendBook t :=
  .of (fun _ => rfl) (by decide) fun _ h p => Part.answer_amendBook h p
theorem cancelBookRow : RequestRow .cancelBook 49 fun t p => p.answerCancelBook t :=
  .of (fun _ => rfl) (by decide) fun _ h p => Part.answer_cancelBook h p

/-- A RESET of a wrong length is answered as the other requests are. -/
theorem exec_reset_badLength {s : State} {it : Item} (hex : s.toPart.executable = some it) (hc : it.ticket.code = 21)
    (hl : it.ticket.body.length ≠ 1) :
    exec .reset s = .next (s.withPart (s.toPart.popCommand.placeReply it .badLength [])) := by
  have he : exec .reset s = request (· == 21) s := rfl
  rw [he, request_answer hex (by simp [hc]) (.inr hl)]
  simp [Part.answer, hc, refuse]

namespace Part

/-! ### The coils that are not OK -/

/-- The coils that are not OK, in physical order. -/
def faultedList (p : Part) : List Nat := (List.range' 1 49).filter fun c => p.coilHealth c != .ok

theorem healthItems_eq (p : Part) : p.healthItems = p.faultedList.map fun c => (c, p.coilHealth c) := by
  have hrange : List.range' 1 49 = (List.range 49).map (· + 1) := by decide
  unfold healthItems faultedList
  rw [hrange, List.filter_map, List.filter_map, List.map_map]
  rfl

theorem health_toList (p : Part) : p.punch.health.toList = (List.range' 1 49).map p.coilHealth := by
  refine List.ext_getElem (by simp) fun i hi _ => ?_
  have hi' : i < 49 := by simpa using hi
  simp [coilHealth, hi']

theorem faultedCoils_ne_zero (p : Part) : (p.faultedCoils != 0) = (p.faultedList != []) := by
  unfold faultedCoils faultedList
  rw [health_toList, List.countP_map, List.countP_eq_length_filter]
  simp only [Function.comp_def]
  cases (List.range' 1 49).filter fun c => p.coilHealth c != .ok <;> rfl

theorem counted_healthItems (p : Part) :
    counted (fun x => [byte x.1, byte x.2.code]) p.healthItems =
      counted (fun c => [byte c, byte (p.coilHealth c).code]) p.faultedList := by
  rw [healthItems_eq, counted, counted, List.length_map, List.flatMap_map]

theorem statusBytes_popCommand (p : Part) : p.popCommand.statusBytes = p.statusBytes := rfl

/-! ### Requests of a wrong length -/

/-- The requests whose BAD_LENGTH reply carries no payload, with the length of their bodies. -/
def plainRequests : List ((Ticket → Part → Answer) × Nat) :=
  [(answerReadStatus, 1), (answerReadQueue, 3), (answerReadBook, 3), (answerReadPattern, 2), (answerReadDrill, 1),
    (answerReadCloser, 1), (answerReadHalt, 1), (answerHalt, 1), (answerClearFaults, 1), (answerAmendBook, 5),
    (answerCancelBook, 3)]

theorem badLength_refused {f : Ticket → Part → Answer} {n : Nat} (hf : (f, n) ∈ plainRequests) {t : Ticket}
    (hl : t.body.length ≠ n) (p : Part) : f t p = refuse .badLength [] p := by
  simp only [plainRequests, List.mem_cons, Prod.mk.injEq, List.not_mem_nil, or_false] at hf
  rcases hf with ⟨rfl, rfl⟩ | ⟨rfl, rfl⟩ | ⟨rfl, rfl⟩ | ⟨rfl, rfl⟩ | ⟨rfl, rfl⟩ | ⟨rfl, rfl⟩ | ⟨rfl, rfl⟩ | ⟨rfl, rfl⟩ |
    ⟨rfl, rfl⟩ | ⟨rfl, rfl⟩ | ⟨rfl, rfl⟩
  all_goals
    simp only [answerReadStatus, answerReadQueue, answerReadBook, answerReadPattern, answerReadDrill, answerReadCloser,
      answerReadHalt, answerHalt, answerClearFaults, answerAmendBook, answerCancelBook]
    split
    · next hb => simp [hb] at hl
    · rfl

/-! ### The entries of a READ QUEUE -/

theorem queueItems_eq (l : List Entry) (n : Nat) :
    queueItems n l = (l.zipIdx n).flatMap fun x => queueItem x.2 x.1 := by
  induction l generalizing n with
  | nil => rfl
  | cons e l ih => rw [queueItems, ih, List.zipIdx_cons, List.flatMap_cons]

theorem shownCopy (x : Spindle) : (if x.state = .idle ∨ x.state = .fault then none else x.copy) =
    if x.state ∈ [SpindleState.plunge, .dwell, .retract, .done] then x.copy else none := by
  cases x.state <;> rfl

end Part

/-- Settles O5: each read is its answer function's one good case; the refusals are its other cases. -/
theorem readAndUnknownRequestsComplete : Obligations.ReadAndUnknownRequestsComplete := by
  intro s it p hex done refused faulted n profile spindle pocket w queued halted secondary
  have body (code : Nat) {b : Byte} {l : List Byte} (hb : it.ticket.body = b :: l) (h : b.toNat = code) :
    it.ticket.code = code := (code_cons hb).trans h
  have reply {i : Instr} {l m : List Byte}
      (h : exec i s = .next (s.withPart (p.popCommand.placeReply it .ok l))) (hl : l = m) : exec i s = done m := hl ▸ h
  refine ⟨fun hb => ?status, fun start count hb hs h1 h4 => ?queue, fun x y b hb hbook => ?book, fun k hb hk => ⟨?_, ?_⟩,
    fun hb => ?drill, fun hb => ?closer, ?unknown, ?queueField, ?bookUnknown, ?patternField, ?lengths, fun hb => ?halt⟩
  case status =>
    have hgives : exec .readStatus s = done p.popCommand.statusBytes :=
      readStatusRow.gives hex (body 1 hb rfl) (by simp only [Part.answerReadStatus, hb]; rfl)
    rw [hgives, Part.statusBytes_popCommand]
    refine congrArg done ?_
    unfold Part.statusBytes
    simp only [Part.lineByte, Part.classes, Part.flagBytes, Enables.bytes, Part.spindleStateBytes,
      Part.punchSettings, Part.counted_healthItems, Part.faultedCoils_ne_zero, List.append_assoc,
      List.cons_append, List.nil_append, Quad.toList, List.map_cons, List.map_nil, Part.waitingCount]
    rfl
  case queue =>
    have hcond : ¬ (23 < start.toNat ∨ (!inRange 1 4 count.toNat) = true) := by simp [inRange]; omega
    refine reply (readQueueRow.gives hex (body 2 hb rfl) (by
      simp only [Part.answerReadQueue, hb, hcond, if_false]; rfl)) ?_
    rw [Part.queueItems_eq]
    rfl
  case book =>
    refine reply (readBookRow.gives hex (body 3 hb rfl) (q := p.popCommand) (r := .ok)
      (l := Part.bookBytes b ++ flag (p.loaded b)) ?_) ?_
    · have hfound : s.toPart.popCommand.book? (nat2 x y) = some b := hbook
      simp only [Part.answerReadBook, hb, hfound]
      rfl
    · have hhanger : byte (yesNo b.hanger) = if b.hanger then 1 else 2 := by cases b.hanger <;> rfl
      have hpocket : codeOr0 PocketId.code b.pocket = b.pocket.elim 0 fun k => byte k.code := by
        cases b.pocket <;> rfl
      simp only [Part.bookBytes, hhanger, hpocket, List.append_assoc, List.cons_append, List.nil_append]
  case refine_1 =>
    intro he
    have hr : ¬ 63 < k.toNat := Nat.not_lt.2 hk
    refine reply (readPatternRow.gives hex (body 4 hb rfl) (by
      simp only [Part.answerReadPattern, hb, hr, if_false]; rfl)) ?_
    have hnone : p.popCommand.pattern? k.toNat = none := he
    rw [Part.patternBytes_byte, hnone]
    rfl
  case refine_2 =>
    intro d he
    have hr : ¬ 63 < k.toNat := Nat.not_lt.2 hk
    refine reply (readPatternRow.gives hex (body 4 hb rfl) (by
      simp only [Part.answerReadPattern, hb, hr, if_false]; rfl)) ?_
    have hsome : p.popCommand.pattern? k.toNat = some d := he
    rw [Part.patternBytes_byte, hsome]
    have hnotch : byte (yesNo d.notch) = if d.notch then 1 else 2 := by cases d.notch <;> rfl
    simp only [Part.patternFields, optional, hnotch, List.append_assoc, List.cons_append, List.nil_append]
    rfl
  case drill =>
    refine reply (readDrillRow.gives hex (body 5 hb rfl) (by simp only [Part.answerReadDrill, hb]; rfl)) ?_
    have hspindles : Part.spindleBytes = spindle := by
      funext x
      simp only [Part.spindleBytes, Part.shownCopy]
      rfl
    have hsequence (c : Bool) (e : Option Entry) : optional halfBytes (if c then e.map Entry.sequence else none) =
        optional (fun e => halfBytes e.sequence) (if c then e else none) := by
      cases c <;> cases e <;> rfl
    simp only [Part.drillSequence, hsequence, hspindles]
    rfl
  case closer =>
    refine reply (readCloserRow.gives hex (body 6 hb rfl) (by simp only [Part.answerReadCloser, hb]; rfl)) ?_
    simp only [CloserWindows.bytes, List.append_assoc, List.cons_append, List.nil_append]
    rfl
  case halt =>
    refine reply (readHaltRow.gives hex (body 7 hb rfl) (by simp only [Part.answerReadHalt, hb]; rfl)) ?_
    rfl
  case queueField =>
    intro start count hb hr
    have hcond : 23 < start.toNat ∨ (!inRange 1 4 count.toNat) = true := by simp [inRange]; omega
    exact readQueueRow.gives hex (body 2 hb rfl) (by simp only [Part.answerReadQueue, hb, hcond, if_true]; rfl)
  case bookUnknown =>
    intro x y hb hbook
    have hnone : s.toPart.popCommand.book? (nat2 x y) = none := hbook
    exact readBookRow.gives hex (body 3 hb rfl) (by simp only [Part.answerReadBook, hb, hnone]; rfl)
  case patternField =>
    intro k hb hk
    exact readPatternRow.gives hex (body 4 hb rfl) (by simp only [Part.answerReadPattern, hb, hk, if_true]; rfl)
  case unknown =>
    intro hcode
    have hu : Part.knownCode it.ticket.code = false := by
      simp only [List.mem_cons, List.not_mem_nil, or_false, not_or] at hcode
      simp [Part.knownCode, inRange]
      omega
    have he : exec .unknownRequest s = request (fun c => !Part.knownCode c) s := rfl
    have hne : it.ticket.code ≠ 21 := fun h => hcode (by simp [h])
    rw [he, request_answer hex (by simp [hu]) (.inl hne)]
    have ha : p.popCommand.answer it.ticket = refuse .unknownRequest [] p.popCommand := by
      simp only [List.mem_cons, List.not_mem_nil, or_false, not_or] at hcode
      simp [Part.answer, hcode]
    rw [ha]
    rfl
  case lengths =>
    intro x hx hc hl
    simp only [List.mem_cons, List.not_mem_nil, or_false] at hx
    rcases hx with rfl | rfl | rfl | rfl | rfl | rfl | rfl | rfl | rfl | rfl | rfl | rfl
    · exact readStatusRow.gives hex hc (Part.badLength_refused (by simp [Part.plainRequests]) hl _)
    · exact readQueueRow.gives hex hc (Part.badLength_refused (by simp [Part.plainRequests]) hl _)
    · exact readBookRow.gives hex hc (Part.badLength_refused (by simp [Part.plainRequests]) hl _)
    · exact readPatternRow.gives hex hc (Part.badLength_refused (by simp [Part.plainRequests]) hl _)
    · exact readDrillRow.gives hex hc (Part.badLength_refused (by simp [Part.plainRequests]) hl _)
    · exact readCloserRow.gives hex hc (Part.badLength_refused (by simp [Part.plainRequests]) hl _)
    · exact readHaltRow.gives hex hc (Part.badLength_refused (by simp [Part.plainRequests]) hl _)
    · exact haltRow.gives hex hc (Part.badLength_refused (by simp [Part.plainRequests]) hl _)
    · exact clearFaultsRow.gives hex hc (Part.badLength_refused (by simp [Part.plainRequests]) hl _)
    · exact exec_reset_badLength hex hc hl
    · exact amendBookRow.gives hex hc (Part.badLength_refused (by simp [Part.plainRequests]) hl _)
    · exact cancelBookRow.gives hex hc (Part.badLength_refused (by simp [Part.plainRequests]) hl _)

end Sys2Proof.Machine
end

section
/-! SUPPORT. RUN, STOP and HALT. -/

namespace Sys2Proof.Machine

namespace Part

/-! ### The gate decision does not look at the line -/

/-- The books and the closer of one part put into another. -/
def booksInto (p r : Part) : Part := { r with books := p.books, closer := p.closer }

theorem book?_booksInto (r p : Part) (n : Nat) : (p.booksInto r).book? n = p.book? n := rfl

theorem endTest_booksInto (r : Part) (n : Nat) (p : Part) : (p.booksInto r).endTest n = (p.endTest n).booksInto r := by
  unfold endTest endBook
  rw [book?_booksInto]
  cases hb : p.book? n with
  | none => rfl
  | some b =>
    dsimp only
    split <;> rfl

theorem spoilPocket_booksInto (r : Part) (k : PocketId) (p : Part) :
    (p.booksInto r).spoilPocket k = (p.spoilPocket k).booksInto r := by
  have hpocket : (p.booksInto r).pocket k = p.pocket k := by cases k <;> rfl
  unfold spoilPocket
  rw [hpocket]
  split <;> cases k <;> rfl

/-- A spoil looks at the books and the closer alone, and changes nothing else. -/
theorem spoil_booksInto (r : Part) (n : Nat) (why : SpoilReason) (lower : Bool) (p : Part) :
    (p.booksInto r).spoil n why lower = (p.spoil n why lower).booksInto r := by
  have hbook := book?_booksInto r p n
  cases hb : p.book? n with
  | none => rw [spoil_none _ _ hb, spoil_none _ _ (hbook.trans hb)]
  | some b =>
    have fresh (hs : b.state = .opened ∨ b.state = .filled ∨ b.state = .ready) :
        (p.booksInto r).spoil n why lower = (p.spoil n why lower).booksInto r := by
      rw [spoil_fresh_eq _ _ hb hs, spoil_fresh_eq _ _ (hbook.trans hb) hs, ← endTest_booksInto]
      unfold takeSpoiled
      cases b.pocket with
      | none => rfl
      | some k =>
        have hcomm := spoilPocket_booksInto r k (p.updateBook n (Book.spoiledBy why lower))
        have hup : (p.booksInto r).updateBook n (Book.spoiledBy why lower) =
            (p.updateBook n (Book.spoiledBy why lower)).booksInto r := rfl
        dsimp only
        rw [hup, hcomm]
        rfl
    cases hs : b.state with
    | opened => exact fresh (.inl hs)
    | filled => exact fresh (.inr (.inl hs))
    | ready => exact fresh (.inr (.inr hs))
    | closing =>
      rw [spoil_closing_eq _ _ hb hs, spoil_closing_eq _ _ (hbook.trans hb) hs]
      split
      · rw [← endTest_booksInto]; rfl
      · rfl
    | spoiled =>
      rw [spoil_spoiled_eq _ _ hb hs, spoil_spoiled_eq _ _ (hbook.trans hb) hs, ← endTest_booksInto]
      rfl
    | ended => rw [spoil_ended_eq _ _ hb hs, spoil_ended_eq _ _ (hbook.trans hb) hs]

theorem spoil_blocks (n : Nat) (why : SpoilReason) (lower : Bool) (p : Part) :
    p.spoil n why lower = { p with books := (p.spoil n why lower).books, closer := (p.spoil n why lower).closer } :=
  spoil_booksInto p n why lower p

theorem spoil_onSup (f : Supervisor → Supervisor) (n : Nat) (why : SpoilReason) (lower : Bool) (p : Part) :
    (p.onSup f).spoil n why lower = (p.spoil n why lower).onSup f := by
  refine (spoil_booksInto (p.onSup f) n why lower p).trans ?_
  rw [spoil_blocks n why lower p]
  rfl

/-- The part with another line state. -/
def withLine (l : LineState) (p : Part) : Part := p.onSup fun u => { u with line := l }

theorem withdrawWait_line {p : Part} (h : p.sup.pocketWait = true) :
    (p.withLine .hold).withdrawWait = (p.withLine .run).withdrawWait := by
  simp [withdrawWait, withLine, onSup, h]

theorem dropTo_line (d : Dest) {p : Part} (h : p.sup.pocketWait = true) :
    (p.withLine .hold).dropTo d = (p.withLine .run).dropTo d :=
  withdrawWait_line (p := (p.modifyOldest .atGate fun e => { e with
    stage := .dropping, destination := some d
    deadline := some ⟨.time, p.msDeadline p.timebase.settings.drop⟩ }).onTracker fun t => { t with gate := d })
    (by simpa using h)

theorem raiseWait_line (p : Part) : (p.withLine .hold).raiseWait = (p.withLine .run).raiseWait := rfl

/-- With a sheet at the gate and the pocket-wait condition raised, the decision is the same in RUN and in HOLD. -/
theorem gateDecide_line_same {p : Part} (hw : p.sup.pocketWait = true) (hg : p.hasStage .atGate = true) :
    (p.withLine .hold).gateDecide = (p.withLine .run).gateDecide := by
  have hsome : ∃ e, p.oldest .atGate = some e := by
    unfold hasStage at hg
    rw [List.any_eq_true] at hg
    obtain ⟨e, he, hs⟩ := hg
    exact Option.isSome_iff_exists.1 (List.find?_isSome.2 ⟨e, he, hs⟩)
  obtain ⟨e, he⟩ := hsome
  have hread (l : LineState) : (p.withLine l).oldest .atGate = some e ∧ (p.withLine l).book? e.book = p.book? e.book ∧
      (p.withLine l).freePocket = p.freePocket := ⟨he, rfl, rfl⟩
  have hspoil (l : LineState) : (p.withLine l).spoil e.book .sheetFault false =
      (p.spoil e.book .sheetFault false).withLine l := spoil_onSup _ _ _ _ p
  have hgrant (l : LineState) (k : PocketId) : (p.withLine l).grant k e.book = (p.grant k e.book).withLine l := by
    cases k <;> rfl
  unfold gateDecide
  rw [(hread .hold).1, (hread .run).1]
  dsimp only
  rw [(hread .hold).2.1, (hread .run).2.1, (hread .hold).2.2, (hread .run).2.2, hspoil, hspoil]
  simp only [hgrant]
  repeat' split
  all_goals first
    | exact dropTo_line _ (by simpa using hw)
    | exact raiseWait_line p

/-! ### RUN -/

theorem enterRun_waitClear {p : Part} (h : p.sup.pocketWait = false) : p.enterRun = (p.withLine .run).follow := by
  rw [follow_outside_hold (by simp [withLine])]
  unfold enterRun withLine
  simp [h]

theorem enterRun_waiting {p : Part} (h : p.sup.pocketWait = true) (hg : p.hasStage .atGate = true) :
    p.enterRun = (p.withLine .hold).follow := by
  have hfollow : (p.withLine .hold).follow = (p.withLine .hold).gateDecide.tryTake := by
    unfold follow
    rw [if_pos]
    simp [withLine, h]
  have henter : p.enterRun = (p.withLine .run).gateDecide.tryTake := by
    unfold enterRun withLine
    simp [h]
  rw [hfollow, gateDecide_line_same h hg, henter]

theorem enterRun_frame (p : Part) : (p.enterRun.sup.line = .run ∨ p.enterRun.sup.line = .hold) ∧
    p.enterRun.timebase = p.timebase ∧ p.enterRun.stations = p.stations ∧ p.enterRun.patterns = p.patterns ∧
    p.enterRun.punch = p.punch ∧ p.enterRun.drill = p.drill := by
  unfold enterRun
  dsimp only
  split
  · simp only [tryTake_frame, gateDecide_frame, onSup_fields, and_self, and_true]
    exact gateDecide_line _ (.inl rfl)
  · simp

/-! ### The conditions, one at a time -/

theorem firstOf_timebase (l : List (Option Condition)) (p : Part) : firstOf (p.timebaseCondition :: l) =
    if p.timebase.state ≠ .valid then some (.timebase p.timebase.state) else firstOf l := by
  unfold timebaseCondition
  by_cases h : p.timebase.state = .valid <;> simp [h, firstOf]

theorem firstOf_supply (l : List (Option Condition)) (p : Part) : firstOf (p.supplyCondition :: l) =
    if p.sup.supplyLow then some .supplyLow else firstOf l := by
  unfold supplyCondition
  cases h : p.sup.supplyLow <;> simp [firstOf]

theorem firstOf_shutdown (l : List (Option Condition)) (p : Part) : firstOf (p.shutdownCondition :: l) =
    if p.sup.driverShutdown then some .driverShutdown else firstOf l := by
  unfold shutdownCondition
  cases h : p.sup.driverShutdown <;> simp [firstOf]

theorem firstOf_guard (l : List (Option Condition)) (p : Part) : firstOf (p.guardCondition :: l) =
    if p.stations.activation.punch && p.stations.guardsOpen.punch then some (.guardOpen .punch)
    else if p.stations.activation.drill && p.stations.guardsOpen.drill then some (.guardOpen .drill)
    else if p.stations.activation.closer && p.stations.guardsOpen.closer then some (.guardOpen .closer)
    else firstOf l := by
  unfold guardCondition openGuard
  simp only [List.find?_cons, List.find?_nil, StationSet.has]
  cases p.stations.activation.punch && p.stations.guardsOpen.punch <;>
    cases p.stations.activation.drill && p.stations.guardsOpen.drill <;>
    cases p.stations.activation.closer && p.stations.guardsOpen.closer <;> rfl

theorem firstOf_punch (l : List (Option Condition)) (p : Part) : firstOf (p.punchCondition :: l) =
    if p.punch.state = .fault then some .punchFault else firstOf l := by
  unfold punchCondition
  by_cases h : p.punch.state = .fault <;> simp [h, firstOf]

theorem firstOf_spindle (l : List (Option Condition)) (p : Part) : firstOf (p.spindleCondition :: l) =
    if (p.spindle .i1).state = .fault then some (.spindleFault .i1)
    else if (p.spindle .i2).state = .fault then some (.spindleFault .i2)
    else if (p.spindle .i3).state = .fault then some (.spindleFault .i3)
    else if (p.spindle .i4).state = .fault then some (.spindleFault .i4)
    else firstOf l := by
  have hread (i : Idx4) : ((p.drill.spindles.get i).state == .fault) = decide ((p.spindle i).state = .fault) := by
    rw [Bool.eq_iff_iff, decide_eq_true_iff, beq_iff_eq]
    rfl
  unfold spindleCondition faultedSpindle Idx4.all
  simp only [List.find?_cons, List.find?_nil, hread]
  by_cases h1 : (p.spindle .i1).state = .fault
  · simp [h1, firstOf]
  by_cases h2 : (p.spindle .i2).state = .fault
  · simp [h1, h2, firstOf]
  by_cases h3 : (p.spindle .i3).state = .fault
  · simp [h1, h2, h3, firstOf]
  by_cases h4 : (p.spindle .i4).state = .fault <;> simp [h1, h2, h3, h4, firstOf]

/-- R135's order, spelled out. -/
theorem runCondition_eq (p : Part) : p.runCondition =
    if p.timebase.state ≠ .valid then some (.timebase p.timebase.state)
    else if p.sup.supplyLow then some .supplyLow
    else if p.sup.driverShutdown then some .driverShutdown
    else if p.stations.activation.punch && p.stations.guardsOpen.punch then some (.guardOpen .punch)
    else if p.stations.activation.drill && p.stations.guardsOpen.drill then some (.guardOpen .drill)
    else if p.stations.activation.closer && p.stations.guardsOpen.closer then some (.guardOpen .closer)
    else if p.punch.state = .fault then some .punchFault
    else if (p.spindle .i1).state = .fault then some (.spindleFault .i1)
    else if (p.spindle .i2).state = .fault then some (.spindleFault .i2)
    else if (p.spindle .i3).state = .fault then some (.spindleFault .i3)
    else if (p.spindle .i4).state = .fault then some (.spindleFault .i4)
    else none := by
  unfold runCondition
  rw [firstOf_timebase, firstOf_supply, firstOf_shutdown, firstOf_guard, firstOf_punch, firstOf_spindle]
  rfl

theorem answerRun_halt {t : Ticket} {p : Part} (hb : t.body = [16]) (hl : p.sup.line = .halt) :
    p.answerRun t = ⟨p, .wrongState, [4]⟩ := by
  simp only [answerRun, hb, hl, lineByte]
  rfl

theorem answerRun_moving {t : Ticket} {p : Part} (hb : t.body = [16]) (hl : p.sup.line = .run ∨ p.sup.line = .hold) :
    p.answerRun t = ⟨p, .ok, [byte p.sup.line.code]⟩ := by
  rcases hl with hl | hl <;> simp only [answerRun, hb, hl, lineByte]

theorem answerRun_badLength {t : Ticket} (hl : t.body.length ≠ 1) (p : Part) :
    p.answerRun t = ⟨p, .badLength, [byte p.sup.line.code]⟩ := by
  unfold answerRun
  split
  · next hb => simp [hb] at hl
  · rfl

theorem answerStop_halt {t : Ticket} {p : Part} (hb : t.body = [17]) (hl : p.sup.line = .halt) :
    p.answerStop t = ⟨p, .wrongState, [4]⟩ := by
  simp only [answerStop, hb, hl, lineByte]
  rfl

theorem answerStop_idle {t : Ticket} {p : Part} (hb : t.body = [17]) (hl : p.sup.line = .idle) :
    p.answerStop t = ⟨p, .ok, [1]⟩ := by
  simp only [answerStop, hb, hl, lineByte]
  rfl

theorem answerStop_moving {t : Ticket} {p : Part} (hb : t.body = [17]) (hl : p.sup.line = .run ∨ p.sup.line = .hold) :
    p.answerStop t = ⟨p.withLine .idle, .ok, [1]⟩ := by
  rcases hl with hl | hl <;>
  · simp only [answerStop, hb, hl, lineByte]
    rfl

theorem answerStop_badLength {t : Ticket} (hl : t.body.length ≠ 1) (p : Part) :
    p.answerStop t = ⟨p, .badLength, [byte p.sup.line.code]⟩ := by
  unfold answerStop
  split
  · next hb => simp [hb] at hl
  · rfl

theorem answerRun_idle {t : Ticket} {p : Part} (hb : t.body = [16]) (hl : p.sup.line = .idle)
    (hc : p.runCondition = none) : p.answerRun t = ⟨p.enterRun, .ok, p.enterRun.lineByte⟩ := by
  simp only [answerRun, hb, hl, hc]

theorem answerRun_condition {t : Ticket} {p : Part} {c : Condition} (hb : t.body = [16]) (hl : p.sup.line = .idle)
    (hc : p.runCondition = some c) : p.answerRun t = refuse .conditionPresent (c.bytes ++ [1]) p := by
  simp only [answerRun, hb, hl, hc, lineByte]
  rfl

end Part

end Sys2Proof.Machine

namespace Sys2Proof.Machine

/-- Settles O6: one case for each line state; what follows RUN is `follow`, also for a sheet that waits at the gate. -/
theorem runAndStopComplete : Obligations.RunAndStopComplete := by
  intro s it p hex running waiting
  have hline : p.popCommand.sup.line = p.sup.line := rfl
  have hcond : p.popCommand.runCondition = p.runCondition := rfl
  have henters (hi : p.sup.line = .idle) (hc : p.runCondition = none) (hb : it.ticket.body = [16]) :
      exec .run s = .next (s.withPart (p.popCommand.enterRun.placeReply it .ok p.popCommand.enterRun.lineByte)) :=
    runRow.gives hex (code_cons hb) (Part.answerRun_idle hb (hline.trans hi) (hcond.trans hc))
  have hclear (hw : p.sup.pocketWait = false) : p.popCommand.enterRun = running.follow :=
    Part.enterRun_waitClear hw
  have hrun : running.follow.sup.line = .run := by
    rw [Part.follow_outside_hold (by simp [running])]
    simp [running]
  refine ⟨fun hb => ⟨fun hi hc hw ht => ?_, fun hi hc => ?_, fun hi hc => ⟨fun hw => ?_, fun hw hg => ?_⟩,
    fun hl => ?_, fun hl => ?_⟩, fun hb => ⟨fun hl => ?_, fun hl => ?_⟩⟩
  · have hnone : running.follow = running := by
      rw [Part.follow_outside_hold (by simp [running])]
      unfold Part.tryTake
      rw [ht]
    rw [henters hi hc hb, hclear hw, hnone]
    rfl
  · refine ⟨_, henters hi hc hb, ?_⟩
    obtain ⟨hl, ht, hs, hp, hpu, hd⟩ := Part.enterRun_frame p.popCommand
    simp only [Part.placeReply_frame]
    exact ⟨hl, ht, hs, hp, hpu, hd⟩
  · rw [henters hi hc hb, hclear hw]
    unfold Part.lineByte
    rw [hrun]
    rfl
  · dsimp only
    rw [henters hi hc hb, Part.enterRun_waiting (p := p.popCommand) hw hg]
    rfl
  · have h := runRow.gives hex (code_cons hb) (Part.answerRun_moving hb (.inl (hline.trans hl)))
    rwa [hline.trans hl] at h
  · have h := runRow.gives hex (code_cons hb) (Part.answerRun_moving hb (.inr (hline.trans hl)))
    rwa [hline.trans hl] at h
  · exact stopRow.gives hex (code_cons hb) (Part.answerStop_moving hb hl)
  · exact stopRow.gives hex (code_cons hb) (Part.answerStop_idle hb hl)

/-- Settles O7: the RUN test is R135's list; each refusal is the answer of one branch. -/
theorem runAndStopRefused : Obligations.RunAndStopRefused := by
  refine ⟨Part.runCondition_eq, fun t => rfl, rfl, rfl, rfl, rfl, rfl, rfl, fun i => rfl, ?_⟩
  intro s it p hex
  have hline : p.popCommand.sup.line = p.sup.line := rfl
  have hcond : p.popCommand.runCondition = p.runCondition := rfl
  have hrefuse (c : Condition) (hb : it.ticket.body = [16]) (hi : p.sup.line = .idle) (hc : p.runCondition = some c) :
      exec .run s = .next (s.withPart (p.popCommand.placeReply it .conditionPresent (c.bytes ++ [1]))) :=
    runRow.gives hex (code_cons hb) (Part.answerRun_condition hb (hline.trans hi) (hcond.trans hc))
  refine ⟨fun hb => ⟨fun hl => ?_, fun t hi ht hv => ?_, fun hi hv hs => ?_, fun hi hv hs hd => ?_, fun c hi hc => ?_⟩,
    fun hb hl => ?_, fun x hx hc hlen => ?_⟩
  · exact runRow.gives hex (code_cons hb) (Part.answerRun_halt hb hl)
  · exact hrefuse (.timebase t) hb hi (by rw [Part.runCondition_eq, if_pos (by rwa [ht]), ht])
  · exact hrefuse .supplyLow hb hi (by rw [Part.runCondition_eq, if_neg (not_not.2 hv), if_pos hs])
  · exact hrefuse .driverShutdown hb hi
      (by rw [Part.runCondition_eq, if_neg (not_not.2 hv), if_neg (by simp [hs]), if_pos hd])
  · exact hrefuse c hb hi hc
  · exact stopRow.gives hex (code_cons hb) (Part.answerStop_halt hb hl)
  · simp only [List.mem_cons, List.not_mem_nil, or_false] at hx
    rcases hx with rfl | rfl
    · exact runRow.gives hex hc (Part.answerRun_badLength hlen _)
    · exact stopRow.gives hex hc (Part.answerStop_badLength hlen _)

/-- Settles O8: the raise enters HALT or writes the secondary record, by the two laws of raising. -/
theorem haltCompletes : Obligations.HaltCompletes := by
  intro s it p hex hb q
  have hhalts : q.sup.line = .halt := by
    by_cases h : p.sup.line = .halt
    · have h' : p.popCommand.sup.line = .halt := h
      simp only [q, Part.raise_in_halt h', Part.noteSecondary, Part.onSup_fields]
      split <;> exact h
    · have h' : p.popCommand.sup.line ≠ .halt := h
      simp only [q, Part.raise_outside_halt h', Part.enterHalt_sup]
  have hexec : exec .halt s = .next (s.withPart (q.placeReply it .ok [4])) := by
    refine haltRow.gives hex (code_cons hb) ?_
    simp only [Part.answerHalt, hb]
    rw [show (p.popCommand.raise .haltRequest none).sup.line = .halt from hhalts]
    rfl
  refine ⟨hexec, fun hl => ⟨hhalts, ?_⟩, fun hl hs => ?_, fun hl hs => ?_⟩
  · have hl' : p.popCommand.sup.line ≠ .halt := hl
    simp only [q, Part.raise_outside_halt hl', Part.enterHalt_sup]
    exact ⟨⟨_, rfl, rfl, rfl, rfl, rfl⟩, trivial, trivial⟩
  · have hl' : p.popCommand.sup.line = .halt := hl
    rw [hexec]
    simp only [q, Part.raise_in_halt hl', Part.noteSecondary_first (p := p.popCommand) hs]
    rfl
  · have hl' : p.popCommand.sup.line = .halt := hl
    rw [hexec]
    simp only [q, Part.raise_in_halt hl', Part.noteSecondary_more (p := p.popCommand) hs]
    rfl

end Sys2Proof.Machine
end

section
/-! SUPPORT. The fields of a request body read back, and the requests that write settings: SET PUNCH, SET PROFILE, SET
LINE, MAP SPINDLES, SET CLOSER, SET TIMEBASE, START TIMEBASE. -/

namespace Sys2Proof.Machine

/-! ### Bytes read back -/

@[simp] theorem byte_toNat (b : Byte) : byte b.toNat = b := by simp [byte]

theorem be2_nat2 (a b : Byte) : be2 (nat2 a b) = [a, b] := by
  have ha := a.isLt
  have hb := b.isLt
  have hdiv : (256 * a.toNat + b.toNat) / 256 = a.toNat := by omega
  have hmod : byte (256 * a.toNat + b.toNat) = b := by
    apply BitVec.eq_of_toNat_eq
    simp only [byte, BitVec.toNat_ofNat]
    omega
  unfold be2 nat2
  rw [hdiv, hmod, byte_toNat]

theorem flag_eq_one {b : Byte} (h : b = 0 ∨ b = 1) : flag (b == 1) = [b] := by
  rcases h with rfl | rfl <;> rfl

theorem boolField?_flag {b : Byte} (h : b = 0 ∨ b = 1) : boolField? b = some (b == 1) := by
  rcases h with rfl | rfl <;> rfl

theorem boolField?_eq_none {b : Byte} (h : ¬(b = 0 ∨ b = 1)) : boolField? b = none := by
  obtain ⟨h0, h1⟩ := not_or.1 h
  unfold boolField?
  rw [if_neg h0, if_neg h1]

theorem inRange_iff {lo hi n : Nat} : inRange lo hi n = true ↔ lo ≤ n ∧ n ≤ hi := by simp [inRange]

theorem Idx4.ofNat?_toNat (i : Idx4) : Idx4.ofNat? i.toNat = some i := by cases i <;> rfl

theorem Idx4.ofNat?_eq_none {n : Nat} (h : n = 0 ∨ 4 < n) : Idx4.ofNat? n = none := by
  unfold Idx4.ofNat?
  split <;> first | rfl | omega

namespace Part

/-! ### SET PUNCH -/

theorem setPunch_badLength {t : Ticket} (hl : t.body.length ≠ 5) (p : Part) :
    p.answerSetPunch t = ⟨p, .badLength, p.punchSettings⟩ := by
  unfold answerSetPunch
  split
  · next hb => simp [hb] at hl
  · rfl

theorem setPunch_busy {t : Ticket} {p : Part} {x a b c d : Byte} (hb : t.body = [x, a, b, c, d])
    (hl : p.sup.line = .run ∨ p.sup.line = .hold) : p.answerSetPunch t = ⟨p, .wrongState, p.punchSettings⟩ := by
  simp only [answerSetPunch, hb, if_pos hl]
  rfl

theorem setPunch_free {t : Ticket} {p : Part} {x a b c d : Byte} (hb : t.body = [x, a, b, c, d])
    (hl : ¬(p.sup.line = .run ∨ p.sup.line = .hold)) : p.answerSetPunch t =
      if 10 ≤ nat2 a b ∧ nat2 a b ≤ 1000 ∧ 10 ≤ nat2 c d ∧ nat2 c d ≤ 1000 then
        ⟨p.onPunch fun x => { x with ramWindow := nat2 a b, returnWindow := nat2 c d }, .ok, [a, b, c, d]⟩
      else ⟨p, .badField, p.punchSettings⟩ := by
  simp only [answerSetPunch, hb, if_neg hl, punchSettings, onPunch_fields, be2_nat2]
  have hiff : (!inRange 10 1000 (nat2 a b) || !inRange 10 1000 (nat2 c d)) = true ↔
      ¬(10 ≤ nat2 a b ∧ nat2 a b ≤ 1000 ∧ 10 ≤ nat2 c d ∧ nat2 c d ≤ 1000) := by
    simp [inRange]
    omega
  rw [if_congr hiff rfl rfl, ite_not]
  rfl

/-! ### SET PROFILE -/

theorem setProfile_badLength {t : Ticket} (hl : t.body.length ≠ 10) (p : Part) :
    p.answerSetProfile t = ⟨p, .badLength, []⟩ := by
  simp only [answerSetProfile, if_pos hl]
  rfl

theorem setProfile_busy {t : Ticket} {p : Part} (hb : t.body.length = 10)
    (hl : p.sup.line = .run ∨ p.sup.line = .hold) :
    p.answerSetProfile t = ⟨p, .wrongState, p.profileIfAny (bodyByte t.body 1).toNat⟩ := by
  simp only [answerSetProfile, if_neg (not_not.2 hb), if_pos hl]
  rfl

/-- The profile of a body, where its fields are in range. -/
def givenProfile (m k a b c d e f : Byte) : Profile :=
  ⟨if m = 1 then .oneShot else .peck, k.toNat, nat2 a b, nat2 c d, nat2 e f⟩

/-- The ranges of R85. -/
def ProfileGood (m k a b c d e f : Byte) : Prop :=
  (m = 1 ∨ m = 2) ∧ 2 ≤ k.toNat ∧ k.toNat ≤ 8 ∧ 10 ≤ nat2 a b ∧ nat2 a b ≤ 2000 ∧ nat2 c d ≤ 1000 ∧ 10 ≤ nat2 e f ∧
    nat2 e f ≤ 2000

theorem profileFields?_good {x n m k a b c d e f : Byte} (h : ProfileGood m k a b c d e f) :
    profileFields? [x, n, m, k, a, b, c, d, e, f] = some (givenProfile m k a b c d e f) := by
  obtain ⟨hm, h1, h2, h3, h4, h5, h6, h7⟩ := h
  have hread : bodyHalf [x, n, m, k, a, b, c, d, e, f] 4 = nat2 a b ∧ bodyHalf [x, n, m, k, a, b, c, d, e, f] 6 = nat2 c d ∧
      bodyHalf [x, n, m, k, a, b, c, d, e, f] 8 = nat2 e f := ⟨rfl, rfl, rfl⟩
  obtain ⟨r1, r2, r3⟩ := hread
  unfold profileFields? givenProfile
  rw [r1, r2, r3]
  rcases hm with rfl | rfl <;>
  simp [bodyByte, modeField?, inRange, h1, h2, h3, h4, h5, h6, h7]

theorem profileFields?_bad {x n m k a b c d e f : Byte} (h : ¬ProfileGood m k a b c d e f) :
    profileFields? [x, n, m, k, a, b, c, d, e, f] = none := by
  have r1 : bodyHalf [x, n, m, k, a, b, c, d, e, f] 4 = nat2 a b := rfl
  have r2 : bodyHalf [x, n, m, k, a, b, c, d, e, f] 6 = nat2 c d := rfl
  have r3 : bodyHalf [x, n, m, k, a, b, c, d, e, f] 8 = nat2 e f := rfl
  unfold profileFields?
  rw [r1, r2, r3]
  split
  · rfl
  · next y hy =>
    have hm : m = 1 ∨ m = 2 := by
      have hy' : modeField? m = some y := hy
      unfold modeField? at hy'
      split at hy'
      · exact .inl ‹_›
      · split at hy'
        · exact .inr ‹_›
        · cases hy'
    dsimp only
    rw [if_neg]
    intro hr
    simp only [Bool.and_eq_true, inRange_iff, bodyByte] at hr
    obtain ⟨⟨⟨hk, hp⟩, hd⟩, hr'⟩ := hr
    exact h ⟨hm, hk.1, hk.2, hp.1, hp.2, hd.2, hr'.1, hr'.2⟩

theorem setProfile_none {t : Ticket} {p : Part} (hb : t.body.length = 10)
    (hl : ¬(p.sup.line = .run ∨ p.sup.line = .hold))
    (hn : Idx4.ofNat? (bodyByte t.body 1).toNat = none ∨ profileFields? t.body = none) :
    p.answerSetProfile t = ⟨p, .badField, p.profileIfAny (bodyByte t.body 1).toNat⟩ := by
  simp only [answerSetProfile, if_neg (not_not.2 hb), if_neg hl]
  split
  · next h1 h2 => rcases hn with h | h <;> simp [h] at h1 h2
  · rfl

theorem setProfile_some {t : Ticket} {p : Part} {i : Idx4} {f : Profile} (hb : t.body.length = 10)
    (hl : ¬(p.sup.line = .run ∨ p.sup.line = .hold)) (hi : Idx4.ofNat? (bodyByte t.body 1).toNat = some i)
    (hf : profileFields? t.body = some f) :
    p.answerSetProfile t = ⟨p.onDrill fun x => { x with profiles := x.profiles.set i f }, .ok, byte i.toNat :: f.bytes⟩ := by
  have hset : (p.drill.profiles.set i f).get i = f := by cases i <;> rfl
  simp only [answerSetProfile, if_neg (not_not.2 hb), if_neg hl, hi, hf, profileBytes, onDrill_fields, hset]

/-! ### SET LINE -/

theorem setLine_badLength {t : Ticket} (hl : t.body.length ≠ 7) (p : Part) :
    p.answerSetLine t = ⟨p, .badLength, []⟩ := by
  unfold answerSetLine
  split
  · next hb => simp [hb] at hl
  · rfl

theorem setLine_busy {t : Ticket} {p : Part} {x m a b c d e : Byte} (hb : t.body = [x, m, a, b, c, d, e])
    (hl : p.sup.line = .run ∨ p.sup.line = .hold) : p.answerSetLine t = ⟨p, .wrongState, p.lineSettings⟩ := by
  simp only [answerSetLine, hb, if_pos hl]
  rfl

theorem setLine_good {t : Ticket} {p : Part} {x m a b c d e : Byte} (hb : t.body = [x, m, a, b, c, d, e])
    (hl : ¬(p.sup.line = .run ∨ p.sup.line = .hold)) (hm : 1 ≤ m.toNat ∧ m.toNat ≤ 4)
    (hf : ∀ y ∈ [a, b, c, d, e], y = 0 ∨ y = 1) : p.answerSetLine t =
      ⟨p.onSup fun u => { u with
        feedMargin := m.toNat, enables := ⟨a == 1, b == 1, c == 1, d == 1, e == 1⟩ }, .ok, [m, a, b, c, d, e]⟩ := by
  simp only [List.mem_cons, List.not_mem_nil, or_false, forall_eq_or_imp, forall_eq] at hf
  obtain ⟨ha, hb', hc, hd, he⟩ := hf
  simp only [answerSetLine, hb, if_neg hl, inRange_iff.2 hm, enables?, boolField?_flag ha, boolField?_flag hb',
    boolField?_flag hc, boolField?_flag hd, boolField?_flag he, lineSettings, onSup_fields, Enables.bytes, flag_eq_one ha,
    flag_eq_one hb', flag_eq_one hc, flag_eq_one hd, flag_eq_one he, byte_toNat, List.cons_append, List.nil_append]

theorem setLine_bad {t : Ticket} {p : Part} {x m a b c d e : Byte} (hb : t.body = [x, m, a, b, c, d, e])
    (hl : ¬(p.sup.line = .run ∨ p.sup.line = .hold))
    (h : ¬(1 ≤ m.toNat ∧ m.toNat ≤ 4 ∧ ∀ y ∈ [a, b, c, d, e], y = 0 ∨ y = 1)) :
    p.answerSetLine t = ⟨p, .badField, p.lineSettings⟩ := by
  simp only [answerSetLine, hb, if_neg hl]
  split
  · next hm he =>
    refine absurd ?_ h
    obtain ⟨h1, h2⟩ := inRange_iff.1 hm
    refine ⟨h1, h2, fun y hy => ?_⟩
    by_contra hbad
    have hnone := boolField?_eq_none hbad
    simp only [List.mem_cons, List.not_mem_nil, or_false] at hy
    rcases hy with rfl | rfl | rfl | rfl | rfl <;> simp [enables?, hnone] at he
  · rfl

/-! ### MAP SPINDLES -/

theorem mapSpindles_badLength {t : Ticket} (hl : t.body.length ≠ 5) (p : Part) :
    p.answerMapSpindles t = ⟨p, .badLength, p.mapBytes⟩ := by
  unfold answerMapSpindles
  split
  · next hb => simp [hb] at hl
  · rfl

theorem mapSpindles_busy {t : Ticket} {p : Part} {x a b c d : Byte} (hb : t.body = [x, a, b, c, d])
    (hl : p.sup.line = .run ∨ p.sup.line = .hold) : p.answerMapSpindles t = ⟨p, .wrongState, p.mapBytes⟩ := by
  simp only [answerMapSpindles, hb, if_pos hl]
  rfl

theorem mapSpindles_bad {t : Ticket} {p : Part} {x a b c d : Byte} (hb : t.body = [x, a, b, c, d])
    (hl : ¬(p.sup.line = .run ∨ p.sup.line = .hold)) (h : ∃ y ∈ [a, b, c, d], y.toNat = 0 ∨ 4 < y.toNat) :
    p.answerMapSpindles t = ⟨p, .badField, p.mapBytes⟩ := by
  obtain ⟨y, hy, hr⟩ := h
  have hnone := Idx4.ofNat?_eq_none hr
  simp only [answerMapSpindles, hb, if_neg hl]
  split
  · next h1 h2 h3 h4 =>
    simp only [List.mem_cons, List.not_mem_nil, or_false] at hy
    rcases hy with rfl | rfl | rfl | rfl <;> simp_all
  · rfl

theorem mapSpindles_good {t : Ticket} {p : Part} {x a b c d : Byte} {i j k l : Idx4} (hb : t.body = [x, a, b, c, d])
    (hl : ¬(p.sup.line = .run ∨ p.sup.line = .hold)) (hi : a.toNat = i.toNat) (hj : b.toNat = j.toNat)
    (hk : c.toNat = k.toNat) (hm : d.toNat = l.toNat) :
    p.answerMapSpindles t = ⟨p.onDrill fun x => { x with map := ⟨i, j, k, l⟩ }, .ok, [a, b, c, d]⟩ := by
  have hbytes : (⟨i, j, k, l⟩ : Quad Idx4).toList.map (fun i => byte i.toNat) = [a, b, c, d] := by
    rw [← byte_toNat a, ← byte_toNat b, ← byte_toNat c, ← byte_toNat d, hi, hj, hk, hm]
    rfl
  simp only [answerMapSpindles, hb, if_neg hl, hi, hj, hk, hm, Idx4.ofNat?_toNat, mapBytes, onDrill_fields, hbytes]

end Part

theorem not_busy {l : LineState} (h : l = .idle ∨ l = .halt) : ¬(l = .run ∨ l = .hold) := by
  rcases h with rfl | rfl <;> decide

/-- Settles O15: each outcome is the answer of one branch. -/
theorem settingRequestsComplete : Obligations.SettingRequestsComplete := by
  intro s it p hex free busy refused windows
  have freed (hl : free) : ¬(p.popCommand.sup.line = .run ∨ p.popCommand.sup.line = .hold) := not_busy hl
  have moving (hl : busy) : p.popCommand.sup.line = .run ∨ p.popCommand.sup.line = .hold := hl
  refine ⟨fun hc hl => setPunchRow.gives hex hc (Part.setPunch_badLength hl _), fun a b c d hb => ?_,
    fun hc hl => setProfileRow.gives hex hc (Part.setProfile_badLength hl _), fun n m k a b c d e f hb => ?_,
    fun hc hl => setLineRow.gives hex hc (Part.setLine_badLength hl _), fun m a b c d e hb => ?_⟩
  · have hc : it.ticket.code = 34 := code_cons hb
    refine ⟨fun hl => setPunchRow.gives hex hc (Part.setPunch_busy hb (moving hl)), fun hl hg => ?_, fun hl hg => ?_⟩
    · exact setPunchRow.gives hex hc ((Part.setPunch_free hb (freed hl)).trans (if_neg hg))
    · exact setPunchRow.gives hex hc ((Part.setPunch_free hb (freed hl)).trans (if_pos hg))
  · have hc : it.ticket.code = 35 := code_cons hb
    have hlen : it.ticket.body.length = 10 := by rw [hb]; rfl
    have hnum : (bodyByte it.ticket.body 1).toNat = n.toNat := by rw [hb]; rfl
    refine ⟨fun hn => ?_, fun i hi => ?_⟩
    · have hnone := Idx4.ofNat?_eq_none hn
      have hany : p.popCommand.profileIfAny (bodyByte it.ticket.body 1).toNat = [] := by
        rw [hnum]; unfold Part.profileIfAny; rw [hnone]
      refine ⟨fun hl => ?_, fun hl => ?_⟩
      · exact setProfileRow.gives hex hc ((Part.setProfile_busy hlen (moving hl)).trans (congrArg _ hany))
      · exact setProfileRow.gives hex hc
          ((Part.setProfile_none hlen (freed hl) (.inl (by rwa [hnum]))).trans (congrArg _ hany))
    · have hsome : Idx4.ofNat? (bodyByte it.ticket.body 1).toNat = some i := by rw [hnum, hi, Idx4.ofNat?_toNat]
      have hany : p.popCommand.profileIfAny (bodyByte it.ticket.body 1).toNat =
          n :: (p.drill.profiles.get i).bytes := by
        unfold Part.profileIfAny
        rw [hsome, ← byte_toNat n, hi]
        rfl
      refine ⟨fun hl => ?_, fun hl hg => ?_, fun hl hg => ?_⟩
      · exact setProfileRow.gives hex hc ((Part.setProfile_busy hlen (moving hl)).trans (congrArg _ hany))
      · exact setProfileRow.gives hex hc 
          ((Part.setProfile_none hlen (freed hl) (.inr (by rw [hb]; exact Part.profileFields?_bad hg))).trans
            (congrArg _ hany))
      · refine setProfileRow.gives hex hc ?_
        refine (Part.setProfile_some hlen (freed hl) hsome (by rw [hb]; exact Part.profileFields?_good hg)).trans ?_
        rw [← hi, byte_toNat]
        have hmode : byte (if m = 1 then ProfileMode.oneShot else .peck).code = m := by
          rcases hg.1 with rfl | rfl <;> rfl
        unfold Part.givenProfile
        simp only [Profile.bytes, be2_nat2, byte_toNat, hmode]
        rfl
  · have hc : it.ticket.code = 42 := code_cons hb
    refine ⟨fun hl => ?_, fun hl hg => ?_, fun hl hg => ?_⟩
    · exact setLineRow.gives hex hc (Part.setLine_busy hb (moving hl))
    · exact setLineRow.gives hex hc (Part.setLine_bad hb (freed hl) hg)
    · obtain ⟨h1, h2, h3⟩ := hg
      exact setLineRow.gives hex hc (Part.setLine_good hb (freed hl) ⟨h1, h2⟩ h3)

/-- Settles O16. -/
theorem mapSpindlesOutcomes : Obligations.MapSpindlesOutcomes := by
  intro s it p hex hc refused
  have freed (hl : p.sup.line = .idle ∨ p.sup.line = .halt) :
      ¬(p.popCommand.sup.line = .run ∨ p.popCommand.sup.line = .hold) := not_busy hl
  refine ⟨fun hl => mapSpindlesRow.gives hex hc (Part.mapSpindles_badLength hl _), fun a b c d hb => ⟨fun hl => ?_,
    fun hl hbad => ?_, fun i j k l hl hi hj hk hm => ?_⟩⟩
  · exact mapSpindlesRow.gives hex hc (Part.mapSpindles_busy (p := p.popCommand) hb hl)
  · exact mapSpindlesRow.gives hex hc (Part.mapSpindles_bad hb (freed hl) hbad)
  · exact mapSpindlesRow.gives hex hc (Part.mapSpindles_good hb (freed hl) hi hj hk hm)

end Sys2Proof.Machine
end

section
/-! SUPPORT. SET CLOSER, SET TIMEBASE and START TIMEBASE, and the completion of a RESET. -/

namespace Sys2Proof.Machine

/-- What a due step gives, where its effect is known. -/
theorem internal_gives {d : Due} {s : State} {q : Part} (h : s.toPart.isDue d = true) (hq : s.toPart.takeDue d = q) :
    internal d s = .next (s.withPart q) := by
  rw [internal_due h, hq]

/-- What an outside event gives, where its effect on the settled part is known. -/
theorem external_gives {f : Part → Part} {s : State} {p q : Part} (hp : p = s.toPart.settle) (hq : f p = q) :
    external f s = .next (s.withPart q) := by
  rw [external_next, ← hp, hq]

/-- A body's bytes are those of its two-byte fields, one after another. -/
theorem flatMap_be2_fields (n : Nat) (l : List Byte) (h : l.length = 2 * n) :
    (List.range n).flatMap (fun i => be2 (nat2 (l.getD (2 * i) 0) (l.getD (2 * i + 1) 0))) = l := by
  induction n generalizing l with
  | zero => exact (List.length_eq_zero_iff.1 h).symm
  | succ n ih =>
    match l, h with
    | a :: b :: rest, h =>
      have hr : rest.length = 2 * n := by simpa [Nat.mul_succ] using h
      rw [List.range_succ_eq_map, List.flatMap_cons, List.flatMap_map]
      calc be2 (nat2 a b) ++ (List.range n).flatMap (fun i =>
            be2 (nat2 ((a :: b :: rest).getD (2 * (i + 1)) 0) ((a :: b :: rest).getD (2 * (i + 1) + 1) 0)))
          = [a, b] ++ (List.range n).flatMap (fun i => be2 (nat2 (rest.getD (2 * i) 0) (rest.getD (2 * i + 1) 0))) := by
            rw [be2_nat2]; rfl
        _ = a :: b :: rest := by rw [ih rest hr]; rfl

/-- A two-byte field that the body has is the number of its two bytes. -/
theorem bodyHalf_eq {l : List Byte} {i : Nat} (h : i + 1 < l.length) :
    bodyHalf l i = nat2 (l.getD i 0) (l.getD (i + 1) 0) := by
  unfold bodyHalf bodyByte
  rw [if_pos h]

namespace Part

/-! ### SET CLOSER -/

/-- The seven windows that stand behind the class. -/
def windowsOf (h : Nat → Nat) : CloserWindows := ⟨h 0, h 1, h 2, h 3, h 4, h 5, h 6⟩

/-- The ranges of R103 and R102. -/
def CloserGood (cls : Nat) (h : Nat → Nat) : Prop :=
  cls ≤ 4 ∧ (∀ i < 7, 10 ≤ h i) ∧ h 0 ≤ 2000 ∧ h 1 ≤ 2000 ∧ h 2 ≤ 500 ∧ h 3 ≤ 2000 ∧ h 4 ≤ 2000 ∧ h 5 ≤ 2000 ∧ h 6 ≤ 5000

theorem closerRangesOk_iff (cls : Nat) (h : Nat → Nat) : closerRangesOk cls (windowsOf h) = true ↔ CloserGood cls h := by
  have hall : (∀ i < 7, 10 ≤ h i) ↔
      10 ≤ h 0 ∧ 10 ≤ h 1 ∧ 10 ≤ h 2 ∧ 10 ≤ h 3 ∧ 10 ≤ h 4 ∧ 10 ≤ h 5 ∧ 10 ≤ h 6 := by
    constructor
    · intro H
      exact ⟨H 0 (by omega), H 1 (by omega), H 2 (by omega), H 3 (by omega), H 4 (by omega), H 5 (by omega),
        H 6 (by omega)⟩
    · rintro ⟨h0, h1, h2, h3, h4, h5, h6⟩ i hi
      interval_cases i <;> assumption
  unfold closerRangesOk CloserGood windowsOf
  rw [hall]
  simp only [Bool.and_eq_true, inRange_iff, decide_eq_true_eq]
  omega

theorem windowFields_eq {t : Ticket} {x c : Byte} {l : List Byte} (hb : t.body = x :: c :: l) (hl : l.length = 14) :
    windowFields t.body = windowsOf fun i => nat2 (l.getD (2 * i) 0) (l.getD (2 * i + 1) 0) := by
  have hread (i : Nat) (hi : i + 1 < l.length) :
      bodyHalf t.body (i + 2) = nat2 (l.getD i 0) (l.getD (i + 1) 0) := by
    rw [hb, bodyHalf_eq (by simp; omega)]
    rfl
  unfold windowFields windowsOf
  rw [hread 0 (by omega), hread 2 (by omega), hread 4 (by omega), hread 6 (by omega), hread 8 (by omega),
    hread 10 (by omega), hread 12 (by omega)]

theorem setCloser_badLength {t : Ticket} (hl : t.body.length ≠ 16) (p : Part) :
    p.answerSetCloser t = ⟨p, .badLength, p.closerSettings⟩ := by
  simp only [answerSetCloser, if_pos hl]
  rfl

theorem setCloser_busy {t : Ticket} {p : Part} (hb : t.body.length = 16)
    (hl : p.sup.line = .run ∨ p.sup.line = .hold) : p.answerSetCloser t = ⟨p, .wrongState, p.closerSettings⟩ := by
  simp only [answerSetCloser, if_neg (not_not.2 hb), if_pos hl]
  rfl

/-- The three answers of SET CLOSER past its length and the line state. -/
theorem setCloser_free {t : Ticket} {p : Part} {x c : Byte} {l : List Byte} (hb : t.body = x :: c :: l)
    (hlen : l.length = 14) (hl : ¬(p.sup.line = .run ∨ p.sup.line = .hold)) {h : Nat → Nat}
    (hh : h = fun i => nat2 (l.getD (2 * i) 0) (l.getD (2 * i + 1) 0)) :
    (¬CloserGood c.toNat h → p.answerSetCloser t = ⟨p, .badField, p.closerSettings⟩) ∧
    (CloserGood c.toNat h → c.toNat ≠ p.closer.wireClass ∧ p.books.records ≠ [] →
      p.answerSetCloser t = ⟨p, .inUse, p.closerSettings ++ [byte p.books.records.length]⟩) ∧
    (CloserGood c.toNat h → ¬(c.toNat ≠ p.closer.wireClass ∧ p.books.records ≠ []) →
      p.answerSetCloser t =
        ⟨p.onCloser fun x => { x with wireClass := c.toNat, windows := windowsOf h }, .ok, c :: l⟩) := by
  have hlen' : t.body.length = 16 := by rw [hb]; simp [hlen]
  have hcls : bodyByte t.body 1 = c := by rw [hb]; rfl
  have hwin : windowFields t.body = windowsOf h := by rw [windowFields_eq hb hlen, hh]
  have hbytes : (windowsOf h).bytes = l := by
    rw [← flatMap_be2_fields 7 l hlen, hh]
    simp [CloserWindows.bytes, windowsOf, List.range_succ]
  have hrange := closerRangesOk_iff c.toNat h
  refine ⟨fun hg => ?_, fun hg hu => ?_, fun hg hu => ?_⟩
  · have hno : (!closerRangesOk c.toNat (windowsOf h)) = true := by
      rw [Bool.not_eq_true', ← Bool.not_eq_true, hrange]; exact hg
    simp only [answerSetCloser, hcls, hwin, if_neg (not_not.2 hlen'), if_neg hl, if_pos hno]
    rfl
  · have hok : ¬(!closerRangesOk c.toNat (windowsOf h)) = true := by simp [hrange.2 hg]
    simp only [answerSetCloser, hcls, hwin, if_neg (not_not.2 hlen'), if_neg hl, if_neg hok, if_pos hu]
    rfl
  · have hok : ¬(!closerRangesOk c.toNat (windowsOf h)) = true := by simp [hrange.2 hg]
    simp only [answerSetCloser, hcls, hwin, if_neg (not_not.2 hlen'), if_neg hl, if_neg hok, if_neg hu, closerSettings,
      onCloser_fields, byte_toNat, hbytes]

/-! ### SET TIMEBASE and START TIMEBASE -/

theorem setTimebase_badLength {t : Ticket} (hl : t.body.length ≠ 11) (p : Part) :
    p.answerSetTimebase t = ⟨p, .badLength, []⟩ := by
  simp only [answerSetTimebase, if_pos hl]
  rfl

theorem setTimebase_locked {t : Ticket} {p : Part} (hb : t.body.length = 11) (hs : p.timebase.state ≠ .unset) :
    p.answerSetTimebase t = ⟨p, .timebaseLocked, p.timebaseBytes⟩ := by
  simp only [answerSetTimebase, if_neg (not_not.2 hb), if_pos hs]
  rfl

/-- The ranges of R122. -/
def TimebaseGood (c e : Byte) (w1 w2 w3 w4 : Nat) : Prop :=
  1 ≤ c.toNat ∧ c.toNat ≤ 64 ∧ (e = 1 ∨ e = 2 ∨ e = 3) ∧ (∀ w ∈ [w1, w2, w3], 50 ≤ w ∧ w ≤ 2000) ∧ 50 ≤ w4 ∧ w4 ≤ 3000

/-- The settings of a body whose fields are in range. -/
def givenTimebase (c e : Byte) (w1 w2 w3 w4 : Nat) : TimebaseSettings :=
  ⟨c.toNat, if e = 1 then .rising else if e = 2 then .falling else .both, w1, w2, w3, w4⟩

theorem edgeField?_eq (e : Byte) : edgeField? e =
    if e = 1 ∨ e = 2 ∨ e = 3 then some (if e = 1 then .rising else if e = 2 then .falling else .both) else none := by
  unfold edgeField?
  by_cases h1 : e = 1
  · rw [if_pos h1, if_pos (.inl h1), if_pos h1]
  · by_cases h2 : e = 2
    · rw [if_neg h1, if_pos h2, if_pos (.inr (.inl h2)), if_neg h1, if_pos h2]
    · by_cases h3 : e = 3
      · rw [if_neg h1, if_neg h2, if_pos h3, if_pos (.inr (.inr h3)), if_neg h1, if_neg h2]
      · rw [if_neg h1, if_neg h2, if_neg h3, if_neg (by tauto)]

theorem timebaseFields?_eq {x c e a1 a2 b1 b2 c1 c2 d1 d2 : Byte} :
    (TimebaseGood c e (nat2 a1 a2) (nat2 b1 b2) (nat2 c1 c2) (nat2 d1 d2) →
      timebaseFields? [x, c, e, a1, a2, b1, b2, c1, c2, d1, d2] =
        some (givenTimebase c e (nat2 a1 a2) (nat2 b1 b2) (nat2 c1 c2) (nat2 d1 d2))) ∧
    (¬TimebaseGood c e (nat2 a1 a2) (nat2 b1 b2) (nat2 c1 c2) (nat2 d1 d2) →
      timebaseFields? [x, c, e, a1, a2, b1, b2, c1, c2, d1, d2] = none) := by
  have r1 : bodyHalf [x, c, e, a1, a2, b1, b2, c1, c2, d1, d2] 3 = nat2 a1 a2 := rfl
  have r2 : bodyHalf [x, c, e, a1, a2, b1, b2, c1, c2, d1, d2] 5 = nat2 b1 b2 := rfl
  have r3 : bodyHalf [x, c, e, a1, a2, b1, b2, c1, c2, d1, d2] 7 = nat2 c1 c2 := rfl
  have r4 : bodyHalf [x, c, e, a1, a2, b1, b2, c1, c2, d1, d2] 9 = nat2 d1 d2 := rfl
  have q1 : bodyByte [x, c, e, a1, a2, b1, b2, c1, c2, d1, d2] 1 = c := rfl
  have q2 : bodyByte [x, c, e, a1, a2, b1, b2, c1, c2, d1, d2] 2 = e := rfl
  unfold timebaseFields? TimebaseGood givenTimebase
  rw [r1, r2, r3, r4, q1, q2, edgeField?_eq]
  by_cases he : e = 1 ∨ e = 2 ∨ e = 3
  · simp only [he, if_true, true_and, Bool.and_eq_true, inRange_iff, List.mem_cons, List.not_mem_nil, or_false,
      forall_eq_or_imp, forall_eq]
    exact ⟨fun h => if_pos (by tauto), fun h => if_neg (by tauto)⟩
  · rw [if_neg he]
    exact ⟨fun h => absurd h.2.2.1 he, fun _ => rfl⟩

theorem setTimebase_unset {t : Ticket} {p : Part} {x c e a1 a2 b1 b2 c1 c2 d1 d2 : Byte}
    (hb : t.body = [x, c, e, a1, a2, b1, b2, c1, c2, d1, d2]) (hs : p.timebase.state = .unset) :
    (¬TimebaseGood c e (nat2 a1 a2) (nat2 b1 b2) (nat2 c1 c2) (nat2 d1 d2) →
      p.answerSetTimebase t = ⟨p, .badField, 1 :: p.timebase.settings.bytes⟩) ∧
    (TimebaseGood c e (nat2 a1 a2) (nat2 b1 b2) (nat2 c1 c2) (nat2 d1 d2) → p.answerSetTimebase t =
      ⟨p.onTimebase fun y => { y with
        settings := givenTimebase c e (nat2 a1 a2) (nat2 b1 b2) (nat2 c1 c2) (nat2 d1 d2) }, .ok,
        [1, c, e, a1, a2, b1, b2, c1, c2, d1, d2]⟩) := by
  have hlen : t.body.length = 11 := by rw [hb]; rfl
  refine ⟨fun hg => ?_, fun hg => ?_⟩
  · have hf : timebaseFields? t.body = none := by rw [hb]; exact timebaseFields?_eq.2 hg
    simp only [answerSetTimebase, if_neg (not_not.2 hlen), hf, timebaseBytes, hs]
    rfl
  · have hf : timebaseFields? t.body =
        some (givenTimebase c e (nat2 a1 a2) (nat2 b1 b2) (nat2 c1 c2) (nat2 d1 d2)) := by
      rw [hb]; exact timebaseFields?_eq.1 hg
    have hedge : byte (if e = 1 then Edge.rising else if e = 2 then .falling else .both).code = e := by
      rcases hg.2.2.1 with rfl | rfl | rfl <;> rfl
    simp only [answerSetTimebase, if_neg (not_not.2 hlen), hf, timebaseBytes, onTimebase_fields, hs,
      TimebaseSettings.bytes, givenTimebase, be2_nat2, byte_toNat, hedge]
    rfl

theorem startTimebase_unset {t : Ticket} {p : Part} (hb : t.body = [39]) (hs : p.timebase.state = .unset) :
    p.answerStartTimebase t = ⟨p.onTimebase fun x => ⟨x.settings, .starting, 0, 0, 0⟩, .ok,
      2 :: p.timebase.settings.bytes ++ [0, 0, 0, 0, 0, 0, 0, 0, 0]⟩ := by
  simp only [answerStartTimebase, hb, startTimebase, if_pos hs, startBytes, timebaseBytes, onTimebase_fields,
    List.append_assoc]
  rfl

theorem startTimebase_set {t : Ticket} {p : Part} (hb : t.body = [39]) (hs : p.timebase.state ≠ .unset) :
    p.answerStartTimebase t = ⟨p, .ok, p.startBytes⟩ := by
  simp only [answerStartTimebase, hb, startTimebase, if_neg hs]

theorem startTimebase_badLength {t : Ticket} (hl : t.body.length ≠ 1) (p : Part) :
    p.answerStartTimebase t = ⟨p, .badLength, p.startBytes⟩ := by
  unfold answerStartTimebase
  split
  · next hb => simp [hb] at hl
  · rfl

end Part

/-- Settles O12: the step is due, since neither part of the completion point is still there. -/
theorem resetCompletesStep : Obligations.ResetCompletesStep := by
  intro s it rest r p hcmd hentry hrecord
  have hover : p.resetOver = true := by
    have he : r.entry.any (fun i => p.tracker.queue.any fun e => e.id == i) = false := by
      cases h : r.entry with
      | none => rfl
      | some i => simpa using hentry i h
    have hb : r.record.any (fun i => p.books.records.any fun b => b.id == i) = false := by
      cases h : r.record with
      | none => rfl
      | some i => simpa using hrecord i h
    simp [Part.resetOver, hcmd, he, hb]
  have hstep : p.completeReset =
      ({ p with cmd := ⟨rest, none⟩ } : Part).placeReply it .ok [byte r.flushed, byte r.ended] := by
    have hpop : (p.popCommand.onCmd fun c => { c with resetting := none }) = { p with cmd := ⟨rest, none⟩ } := by
      simp [Part.popCommand, Part.onCmd, hcmd]
    rw [← hpop]
    simp only [Part.completeReset, hcmd]
  exact internal_gives (d := .resetCompletes) hover hstep

/-- Settles O17: each outcome is the answer of one branch. -/
theorem setCloserCompletes : Obligations.SetCloserCompletes := by
  intro s it p hex hc refused
  refine ⟨fun hl => ?_, fun cls l hb hlen => ?_⟩
  · have h := setCloserRow.gives hex hc (Part.setCloser_badLength hl _)
    rw [h]
    simp only [refused, Part.closerSettings, CloserWindows.bytes, List.append_nil]
    rfl
  · have hlen' : it.ticket.body.length = 16 := by rw [hb]; simp [hlen]
    have hsettings (more : List Byte) : p.popCommand.closerSettings ++ more =
        byte p.closer.wireClass :: be2 p.closer.windows.clamp ++ be2 p.closer.windows.hanger ++
          be2 p.closer.windows.loop ++ be2 p.closer.windows.cut ++ be2 p.closer.windows.close ++
          be2 p.closer.windows.eject ++ be2 p.closer.windows.dump ++ more := by
      simp [Part.closerSettings, CloserWindows.bytes]
    intro h good
    refine ⟨fun hl => ?_, fun hl => ?_⟩
    · have hans := Part.setCloser_busy (p := p.popCommand) hlen' hl
      rw [setCloserRow.gives hex hc hans, ← List.append_nil p.popCommand.closerSettings, hsettings]
    · obtain ⟨hbad, huse, hok⟩ := Part.setCloser_free (p := p.popCommand) hb hlen (not_busy hl) (h := h) rfl
      refine ⟨fun hg => ?_, fun hg h1 h2 => ?_, fun hg hu => ?_⟩
      · rw [setCloserRow.gives hex hc (hbad hg), ← List.append_nil p.popCommand.closerSettings, hsettings]
      · rw [setCloserRow.gives hex hc (huse hg ⟨h1, h2⟩), hsettings]
        rfl
      · exact setCloserRow.gives hex hc (hok hg (by rintro ⟨h1, h2⟩; exact hu.elim h1 h2))

/-- Settles O18: each outcome is the answer of one branch. -/
theorem timebaseRequestsComplete : Obligations.TimebaseRequestsComplete := by
  intro s it p hex x settings now refused
  have hset : p.timebase.settings.bytes = settings := rfl
  have hstart : p.popCommand.startBytes = now := rfl
  refine ⟨fun hc hl => setTimebaseRow.gives hex hc (Part.setTimebase_badLength hl _),
    fun hc hl hs => setTimebaseRow.gives hex hc (Part.setTimebase_locked (p := p.popCommand) hl hs),
    fun c e a1 a2 b1 b2 c1 c2 d1 d2 hb hs => ?_, fun hb hs => ?_, fun hb hs => ?_, fun hc hl => ?_⟩
  · obtain ⟨hbad, hgood⟩ := Part.setTimebase_unset (p := p.popCommand) hb hs
    exact ⟨fun hg => setTimebaseRow.gives hex (code_cons hb) (hbad hg),
      fun hg => setTimebaseRow.gives hex (code_cons hb) (hgood hg)⟩
  · exact startTimebaseRow.gives hex (code_cons hb) (Part.startTimebase_unset (p := p.popCommand) hb hs)
  · exact startTimebaseRow.gives hex (code_cons hb) (Part.startTimebase_set (p := p.popCommand) hb hs)
  · exact startTimebaseRow.gives hex hc (Part.startTimebase_badLength hl p.popCommand)

end Sys2Proof.Machine
end

section
/-! SUPPORT. STATIONS and SERVICE: a change of the station sets, and what the punch and the closer then do. -/

namespace Sys2Proof.Machine

namespace Part

/-! ### The end of an engagement -/

/-- The punch in IDLE, all that belongs to a strike cleared. -/
def idled (x : Punch) : Punch :=
  { x with state := .idle, treatment := none, engaged := [], faulted := [], brokenOff := false, held := false
           deadline := none }

theorem endEngagement_eq (w : SkipReason) (l : List Nat) (p : Part) : p.endEngagement w l =
    { p with
      punch := idled p.punch
      tracker := if p.punch.held then (p.releasePunch .skipped (some w) l).tracker else p.tracker } := by
  unfold endEngagement
  cases p.punch.held <;> rfl

theorem punchLosesEffect_kept {p : Part} (h : p.effective .punch = true ∨ p.punch.state ≠ .engage) :
    p.punchLosesEffect = p := by
  unfold punchLosesEffect
  rw [if_neg]
  rintro ⟨hs, he⟩
  rcases h with h | h
  · simp [h] at he
  · exact h hs

theorem punchLosesEffect_lost {p : Part} (he : p.effective .punch = false) (hs : p.punch.state = .engage) :
    p.punchLosesEffect = p.endEngagement .stationOff [] := if_pos ⟨hs, he⟩

theorem punchLosesEffect_frame (p : Part) :
    p.punchLosesEffect = { p with punch := p.punchLosesEffect.punch, tracker := p.punchLosesEffect.tracker } := by
  unfold punchLosesEffect
  split
  · rw [endEngagement_eq]
  · rfl

theorem effective_congr {p q : Part} (h : q.stations = p.stations) (s : Station) : q.effective s = p.effective s := by
  unfold effective
  rw [h]

theorem effectiveSet_congr {p q : Part} (h : q.stations = p.stations) : q.effectiveSet = p.effectiveSet := by
  unfold effectiveSet
  simp only [effective_congr h]

/-! ### A change of the sets -/

/-- The part after the sets change and the punch has seen it, before what follows in the same event. -/
def restationed (x : Stations) (p : Part) : Part := (p.popCommand.onStations fun _ => x).punchLosesEffect

theorem restationed_stations (x : Stations) (p : Part) : (p.restationed x).stations = x := by
  unfold restationed
  rw [punchLosesEffect_frame]
  rfl

/-- What a change of the sets leaves, block by block (R73). -/
structure StationChange (p q : Part) (x : Stations) : Prop where
  blocks : q = { p with
    cmd := { p.cmd with list := p.cmd.list.tail }, stations := x, punch := q.punch, tracker := q.tracker }
  follows : p.sup.line = .idle ∨ p.sup.line = .halt → q.follow = q
  punch_kept : q.effective .punch = true ∨ p.punch.state ≠ .engage → q.punch = p.punch
  punch_idle : q.effective .punch = false → p.punch.state = .engage → q.punch = idled p.punch
  tracker_kept : q.effective .punch = true ∨ p.punch.state ≠ .engage ∨ p.punch.held = false → q.tracker = p.tracker
  released : ∀ es fs e, q.effective .punch = false → p.punch.state = .engage → p.punch.held = true →
    p.tracker.queue = es ++ e :: fs → (∀ x ∈ es, x.stage ≠ .atPunch) → e.stage = .atPunch →
    q.tracker = { p.tracker with queue := es ++ { e with
      stage := .toDrill, punchResult := some .skipped, punchSkip := some .stationOff, faultedPins := []
      deadline := some ⟨.position, p.timebase.position +
        BitVec.ofNat 32 (p.timebase.settings.mid * p.timebase.settings.scale)⟩ } :: fs }

theorem stationChange_restationed (x : Stations) (p : Part) : StationChange p (p.restationed x) x := by
  have heff : (p.restationed x).effective .punch = (p.popCommand.onStations fun _ => x).effective .punch :=
    effective_congr (restationed_stations x p) .punch
  have kept (h : (p.restationed x).effective .punch = true ∨ p.punch.state ≠ .engage) :
      p.restationed x = p.popCommand.onStations fun _ => x :=
    punchLosesEffect_kept (by rwa [heff] at h)
  have lost (he : (p.restationed x).effective .punch = false) (hs : p.punch.state = .engage) :
      p.restationed x = (p.popCommand.onStations fun _ => x).endEngagement .stationOff [] :=
    punchLosesEffect_lost (by rwa [heff] at he) hs
  have hblocks : p.restationed x = { p with
      cmd := { p.cmd with list := p.cmd.list.tail }, stations := x, punch := (p.restationed x).punch
      tracker := (p.restationed x).tracker } := punchLosesEffect_frame _
  have hsup : (p.restationed x).sup = p.sup := by rw [hblocks]
  refine ⟨hblocks, fun hl => follow_stopped (by rwa [hsup]), fun h => by rw [kept h]; rfl,
    fun he hs => by rw [lost he hs, endEngagement_eq]; rfl, fun h => ?_, fun es fs e he hs hh hq hes hst => ?_⟩
  · by_cases hk : (p.restationed x).effective .punch = true ∨ p.punch.state ≠ .engage
    · rw [kept hk]
      rfl
    · obtain ⟨he, hs⟩ := not_or.1 hk
      have hheld : p.punch.held = false := by tauto
      rw [lost (by simpa using he) (not_not.1 hs), endEngagement_eq]
      simp [hheld]
  · rw [lost he hs, endEngagement_eq]
    have hrel := releasePunch_append (p := p.popCommand.onStations fun _ => x) hq hes hst .skipped (some .stationOff) []
    rw [if_pos (show (p.popCommand.onStations fun _ => x).punch.held = true from hh), hrel]
    rfl

/-- The reply's sets are those after the change, whatever follows. -/
theorem stationsBytes_follow (q : Part) : q.follow.stationsBytes = q.stationsBytes := by
  unfold stationsBytes
  have hs : q.follow.stations = q.stations := by simp
  rw [effectiveSet_congr hs, hs]

theorem serviceBytes_follow (q : Part) : q.follow.serviceBytes = q.serviceBytes := by
  unfold serviceBytes
  have hs : q.follow.stations = q.stations := by simp
  rw [effectiveSet_congr hs, hs]

/-! ### Member flags -/

/-- Every byte is a member flag (R189). -/
def Flags (l : List Byte) : Prop := ∀ x ∈ l, x = 0 ∨ x = 1

theorem setField?_flags {a b c : Byte} (h : Flags [a, b, c]) : setField? a b c = some ⟨a == 1, b == 1, c == 1⟩ := by
  simp only [setField?, boolField?_flag (h a (by simp)), boolField?_flag (h b (by simp)), boolField?_flag (h c (by simp))]

theorem setField?_bad {a b c : Byte} (h : ¬Flags [a, b, c]) : setField? a b c = none := by
  unfold Flags at h
  push Not at h
  obtain ⟨y, hy, h0, h1⟩ := h
  have hnone := boolField?_eq_none (b := y) (by tauto)
  unfold setField?
  split
  · next hx hy' hz =>
    simp only [List.mem_cons, List.not_mem_nil, or_false] at hy
    rcases hy with rfl | rfl | rfl <;> simp_all
  · rfl

/-! ### STATIONS -/

theorem stations_badLength {t : Ticket} (hl : t.body.length ≠ 4) (p : Part) :
    p.answerStations t = ⟨p, .badLength, p.stationsBytes⟩ := by
  unfold answerStations
  split
  · next hb => simp [hb] at hl
  · rfl

theorem stations_busy {t : Ticket} {p : Part} {x a b c : Byte} (hb : t.body = [x, a, b, c])
    (hl : p.sup.line = .run ∨ p.sup.line = .hold) : p.answerStations t = ⟨p, .wrongState, p.stationsBytes⟩ := by
  simp only [answerStations, hb, if_pos hl]
  rfl

theorem stations_notValid {t : Ticket} {p : Part} {x a b c : Byte} (hb : t.body = [x, a, b, c])
    (hl : ¬(p.sup.line = .run ∨ p.sup.line = .hold)) (hv : p.timebase.state ≠ .valid) :
    p.answerStations t = ⟨p, .timebaseNotValid, p.stationsBytes⟩ := by
  simp only [answerStations, hb, if_neg hl, if_pos hv]
  rfl

theorem stations_bad {t : Ticket} {p : Part} {x a b c : Byte} (hb : t.body = [x, a, b, c])
    (hl : ¬(p.sup.line = .run ∨ p.sup.line = .hold)) (hv : p.timebase.state = .valid) (hf : ¬Flags [a, b, c]) :
    p.answerStations t = ⟨p, .badField, p.stationsBytes⟩ := by
  simp only [answerStations, hb, if_neg hl, hv, setField?_bad hf]
  rfl

theorem stations_good {t : Ticket} {p : Part} {x a b c : Byte} (hb : t.body = [x, a, b, c])
    (hl : ¬(p.sup.line = .run ∨ p.sup.line = .hold)) (hv : p.timebase.state = .valid) (hf : Flags [a, b, c]) :
    p.answerStations t =
      let q := (p.onStations fun s => { s with activation := ⟨a == 1, b == 1, c == 1⟩ }).punchLosesEffect
      ⟨q.follow, .ok, q.stationsBytes⟩ := by
  simp only [answerStations, hb, if_neg hl, hv, setField?_flags hf, stationsChanged, stationsBytes_follow]
  rfl

/-! ### SERVICE -/

theorem service_badLength {t : Ticket} (hl : t.body.length ≠ 5) (p : Part) :
    p.answerService t = ⟨p, .badLength, p.serviceBytes⟩ := by
  unfold answerService
  split
  · next hb => simp [hb] at hl
  · rfl

theorem service_locked {t : Ticket} {p : Part} {x a b c l : Byte} (hb : t.body = [x, a, b, c, l])
    (hk : p.stations.lock = true) : p.answerService t = ⟨p, .locked, p.serviceBytes⟩ := by
  simp only [answerService, hb, if_pos hk]
  rfl

theorem service_bad {t : Ticket} {p : Part} {x a b c l : Byte} (hb : t.body = [x, a, b, c, l])
    (hk : p.stations.lock = false) (hf : ¬Flags [a, b, c, l]) : p.answerService t = ⟨p, .badField, p.serviceBytes⟩ := by
  simp only [answerService, hb, hk, Bool.false_eq_true, if_false]
  split
  · next hs hb' =>
    refine absurd (fun y hy => ?_) hf
    simp only [List.mem_cons, List.not_mem_nil, or_false] at hy
    have hset : Flags [a, b, c] := by
      by_contra hbad
      simp [setField?_bad hbad] at hs
    have hlock : l = 0 ∨ l = 1 := by
      by_contra hbad
      simp [boolField?_eq_none hbad] at hb'
    rcases hy with rfl | rfl | rfl | rfl
    · exact hset _ (by simp)
    · exact hset _ (by simp)
    · exact hset _ (by simp)
    · exact hlock
  · rfl

theorem service_good {t : Ticket} {p : Part} {x a b c l : Byte} (hb : t.body = [x, a, b, c, l])
    (hk : p.stations.lock = false) (hf : Flags [a, b, c, l]) :
    p.answerService t =
      let q := (p.onStations fun s =>
        { s with outOfService := ⟨a == 1, b == 1, c == 1⟩, lock := l == 1 }).punchLosesEffect
      ⟨q.follow, .ok, q.serviceBytes⟩ := by
  have hset : Flags [a, b, c] := fun y hy => hf y (by simp only [List.mem_cons] at hy ⊢; tauto)
  simp only [answerService, hb, hk, Bool.false_eq_true, if_false, setField?_flags hset, boolField?_flag (hf l (by simp)),
    stationsChanged, serviceBytes_follow]

end Part

/-- Settles O19: the completed requests change the sets and let the punch see it, by one lemma for both. -/
theorem stationRequestsComplete : Obligations.StationRequestsComplete := by
  intro s it p hex changes stops sets service flags
  have changed {i : Instr} {x : Stations} {payload : Part → List Byte}
      (h : exec i s = .next (s.withPart ((p.restationed x).follow.placeReply it .ok (payload (p.restationed x))))) :
      changes i x payload := by
    obtain ⟨hblocks, hfollow, hk, hi, ht, hr⟩ := Part.stationChange_restationed x p
    exact ⟨_, h, hblocks, hfollow, hk, hi, ht, hr⟩
  refine ⟨fun hc hl => stationsRow.gives hex hc (Part.stations_badLength hl p.popCommand), fun a b c hb => ?_,
    fun hc hl => serviceRow.gives hex hc (Part.service_badLength hl p.popCommand), fun a b c l hb => ?_⟩
  · have hc : it.ticket.code = 40 := code_cons hb
    refine ⟨fun hl => stationsRow.gives hex hc (Part.stations_busy (p := p.popCommand) hb hl), fun hl => ?_⟩
    have hfree : ¬(p.popCommand.sup.line = .run ∨ p.popCommand.sup.line = .hold) := not_busy hl
    refine ⟨fun hv => ?_, fun hv hf => ?_, fun hv hf => changed ?_⟩
    · exact stationsRow.gives hex hc (Part.stations_notValid hb hfree hv)
    · exact stationsRow.gives hex hc (Part.stations_bad hb hfree hv hf)
    · exact stationsRow.gives hex hc (Part.stations_good hb hfree hv hf)
  · have hc : it.ticket.code = 41 := code_cons hb
    refine ⟨fun hk => ?_, fun hk hf => ?_, fun hk hf => changed ?_⟩
    · exact serviceRow.gives hex hc (Part.service_locked (p := p.popCommand) hb hk)
    · exact serviceRow.gives hex hc (Part.service_bad (p := p.popCommand) hb hk hf)
    · exact serviceRow.gives hex hc (Part.service_good (p := p.popCommand) hb hk hf)

end Sys2Proof.Machine
end

section
/-! SUPPORT. One record changes and its end test follows: a spoil, AMEND BOOK and CANCEL BOOK. -/

namespace Sys2Proof.Machine

/-- What becomes of a record at its end test (R43). -/
def Book.tested (c : Book) : Book := if c.mayEnd then c.endedWith .spoiled else c

theorem Book.mayEnd_of_spoiled {c : Book} (h : c.state = .spoiled) :
    c.mayEnd = (c.admitted == c.expected && c.inQueue == 0 && c.pocket == none) := by
  simp [Book.mayEnd, h]

namespace Part

/-- The book table after the record of a number has become `c` and its end test has followed. -/
structure RecordChanged (p q : Part) (n : Nat) (c : Book) : Prop where
  found : q.book? n = some c.tested
  others : ∀ m, m ≠ n → q.book? m = p.book? m
  tail : q.books.tailBook = p.books.tailBook
  endOrder : q.books.endOrder = p.books.endOrder ++ (if c.mayEnd then [c.id] else [])

theorem book?_congr {p q : Part} (h : q.books = p.books) (n : Nat) : q.book? n = p.book? n := by
  unfold book?
  rw [h]

theorem endTest_endOrder {n : Nat} {p : Part} {c : Book} (h : p.book? n = some c) :
    (p.endTest n).books.endOrder = p.books.endOrder ++ (if c.mayEnd then [c.id] else []) := by
  unfold endTest
  rw [h]
  dsimp only
  split
  · rw [endBook_eq _ h]
    rfl
  · rw [List.append_nil]

theorem endTest_changed {p r : Part} {n : Nat} {b : Book} {f : Book → Book} (hb : p.book? n = some b)
    (hf : ∀ b, (f b).number = b.number) (hr : r.books = (p.updateBook n f).books) :
    RecordChanged p (r.endTest n) n (f b) := by
  have hread (m : Nat) : r.book? m = if m = n then (p.book? m).map f else p.book? m := by
    rw [book?_congr hr, book?_updateBook n m f hf]
  have hn : r.book? n = some (f b) := by rw [hread, if_pos rfl, hb]; rfl
  refine ⟨?_, fun m hm => ?_, ?_, ?_⟩
  · rw [book?_endTest hn, if_pos rfl]
    rfl
  · rw [book?_endTest_ne _ hm, hread, if_neg hm]
  · rw [endTest_tailBook, hr]
    rfl
  · rw [endTest_endOrder hn, hr]
    rfl

theorem endTest_blocks (n : Nat) (p : Part) : p.endTest n = { p with books := (p.endTest n).books } := by
  unfold endTest
  split
  · split
    · unfold endBook
      split <;> rfl
    · rfl
  · rfl

/-! ### A spoil, block by block -/

theorem spoilPocket_blocks (k : PocketId) (p : Part) : p.spoilPocket k = { p with closer := (p.spoilPocket k).closer } := by
  unfold spoilPocket
  cases k <;> split <;> rfl

theorem takeSpoiled_blocks (n : Nat) (why : SpoilReason) (lower : Bool) (b : Book) (p : Part) :
    p.takeSpoiled n why lower b = { p with
      books := (p.updateBook n (Book.spoiledBy why lower)).books, closer := (p.takeSpoiled n why lower b).closer } := by
  unfold takeSpoiled
  cases b.pocket with
  | none => rfl
  | some k =>
    dsimp only
    rw [spoilPocket_blocks]
    rfl

theorem dropStaged_closer_eq (i : Nat) (p : Part) :
    (p.dropStaged i).closer = { p.closer with staged := p.closer.staged.filter fun g => g.id != i } := by
  unfold dropStaged
  simp only [onCloser_fields]
  obtain ⟨state, current, a, b, requests, deadline, active, staged, wire, windows, record, empty⟩ := p.closer
  cases staged with
  | none => rfl
  | some g => by_cases hi : g.id = i <;> simp [Option.filter, hi]

theorem spoilPocket_closer_eq (k : PocketId) (p : Part) : (p.spoilPocket k).closer = { p.closer with
    pocketA := (p.spoilPocket k).closer.pocketA, pocketB := (p.spoilPocket k).closer.pocketB
    requests := p.closer.requests ++ (if (p.pocket k).state = .gathering then [k] else []) } := by
  by_cases hg : (p.pocket k).state = .gathering
  · rw [spoilPocket_gathering hg, if_pos hg]
    cases k <;> rfl
  · rw [if_neg hg, List.append_nil]
    unfold spoilPocket
    cases k <;> split <;> first | rfl | exact absurd ‹_› hg

theorem spoilPocket_pocket (k j : PocketId) (p : Part) : (p.spoilPocket k).pocket j =
    if j = k ∧ ((p.pocket k).state = .gathering ∨ (p.pocket k).state = .full) then { p.pocket j with state := .dumpWait }
    else p.pocket j := by
  unfold spoilPocket
  split
  · next h =>
    rw [pocket_joinRequests, pocket_movePocket]
    by_cases hj : j = k <;> simp [h, hj]
  · next h =>
    rw [pocket_movePocket]
    by_cases hj : j = k <;> simp [h, hj]
  · next h1 h2 =>
    rw [if_neg]
    rintro ⟨-, h | h⟩
    · exact h1 h
    · exact h2 h

theorem takeSpoiled_pocket (n : Nat) (why : SpoilReason) (lower : Bool) (b : Book) (p : Part) (k : PocketId) :
    (p.takeSpoiled n why lower b).pocket k =
      if b.pocket = some k ∧ ((p.pocket k).state = .gathering ∨ (p.pocket k).state = .full) then
        { p.pocket k with state := .dumpWait }
      else p.pocket k := by
  unfold takeSpoiled
  rw [pocket_dropStaged]
  cases b.pocket with
  | none => simp
  | some j =>
    dsimp only
    rw [spoilPocket_pocket]
    by_cases hk : k = j
    · simp [hk]
    · simp [hk, Ne.symm hk]

theorem takeSpoiled_closer_eq (n : Nat) (why : SpoilReason) (lower : Bool) (b : Book) (p : Part) :
    (p.takeSpoiled n why lower b).closer = { p.closer with
      pocketA := (p.takeSpoiled n why lower b).closer.pocketA, pocketB := (p.takeSpoiled n why lower b).closer.pocketB
      requests := p.closer.requests ++ (b.pocket.filter fun k => (p.pocket k).state == .gathering).toList
      staged := p.closer.staged.filter fun g => g.id != b.id } := by
  unfold takeSpoiled
  rw [dropStaged_closer_eq]
  cases b.pocket with
  | none => simp
  | some k =>
    dsimp only
    rw [spoilPocket_closer_eq]
    by_cases hg : (p.pocket k).state = .gathering <;> simp [hg, Option.filter]

theorem Book.spoiledBy_number (why : SpoilReason) (lower : Bool) (b : Book) :
    (Book.spoiledBy why lower b).number = b.number := (Book.spoiledBy_fields why lower b).1

/-- A spoil of a record that holds or awaits leaves: R40. -/
theorem spoil_fresh_changed {p : Part} {n : Nat} {b : Book} (why : SpoilReason) (lower : Bool) (hb : p.book? n = some b)
    (hs : b.state = .opened ∨ b.state = .filled ∨ b.state = .ready) :
    RecordChanged p (p.spoil n why lower) n (Book.spoiledBy why lower b) := by
  rw [spoil_fresh_eq why lower hb hs]
  exact endTest_changed hb (Book.spoiledBy_number why lower) (by rw [takeSpoiled_blocks])

theorem spoil_closing_changed {p : Part} {n : Nat} {b : Book} {why : SpoilReason} (lower : Bool) (hb : p.book? n = some b)
    (hs : b.state = .closing) (hw : why = .closerFault ∨ why = .lineHalt) :
    RecordChanged p (p.spoil n why lower) n (Book.spoiledBy why false b) := by
  rw [spoil_closing_eq why lower hb hs, if_pos hw]
  exact endTest_changed hb (Book.spoiledBy_number why false) rfl

theorem spoil_spoiled_changed {p : Part} {n : Nat} {b : Book} (why : SpoilReason) (lower : Bool) (hb : p.book? n = some b)
    (hs : b.state = .spoiled) : RecordChanged p (p.spoil n why lower) n (Book.lowered lower b) := by
  rw [spoil_spoiled_eq why lower hb hs]
  exact endTest_changed hb (fun b => (Book.lowered_fields lower b).1) rfl

/-- A spoil of a CLOSING or a SPOILED record leaves the closer alone. -/
theorem spoil_closer_kept {p : Part} {n : Nat} {b : Book} (why : SpoilReason) (lower : Bool) (hb : p.book? n = some b)
    (hs : b.state = .closing ∨ b.state = .spoiled) : (p.spoil n why lower).closer = p.closer := by
  rcases hs with hs | hs
  · rw [spoil_closing_eq _ _ hb hs]
    split <;> simp
  · rw [spoil_spoiled_eq _ _ hb hs]
    simp

end Part

namespace Part

/-! ### AMEND BOOK -/

theorem amend_eq (b : Book) (l : Nat) (p : Part) : p.amend b l = { p with
    books := { p.books with records := p.books.records.map fun r =>
      if r.number = b.number then { r with loopCount := l, generation := r.generation + 1 } else r }
    closer := { p.closer with staged := p.closer.staged.map fun v =>
      if v.id = b.id then { v with value := l } else v } } := by
  have hstaged : (match p.closer.staged with
      | some g => if g.id = b.id then { p.closer with staged := some { g with value := l } } else p.closer
      | none => p.closer) = { p.closer with staged := p.closer.staged.map fun v =>
        if v.id = b.id then { v with value := l } else v } := by
    obtain ⟨state, current, a, b, requests, deadline, active, staged, wire, windows, record, empty⟩ := p.closer
    cases staged with
    | none => rfl
    | some g =>
      dsimp only [Option.map_some]
      split <;> rfl
  rw [← hstaged]
  rfl

theorem amendable_eq (b : Book) (p : Part) : (!p.amendable b) = true ↔
    b.state = .closing ∨ b.state = .spoiled ∨ b.state = .ended ∨ p.loaded b = true := by
  unfold amendable
  cases hs : b.state <;> cases p.loaded b <;> simp

/-- What a refused AMEND BOOK shows of the record. -/
def bookNow (b : Book) : List Byte := be2 b.number ++ [b.generation, byte b.state.code]

theorem amendBook_eq {t : Ticket} {p : Part} {b : Book} {c x y g l : Byte} (ht : t.body = [c, x, y, g, l])
    (hb : p.book? (nat2 x y) = some b) : p.answerAmendBook t =
      if b.generation ≠ g then ⟨p, .stale, bookNow b⟩
      else if (!p.amendable b) = true then ⟨p, .notAmendable, bookNow b⟩
      else if (!inRange 6 60 l.toNat) = true then ⟨p, .badField, bookNow b⟩
      else ⟨p.amend b l.toNat, .ok, be2 b.number ++ [b.generation + 1, l]⟩ := by
  simp only [answerAmendBook, ht, hb]
  rfl

/-! ### CANCEL BOOK -/

theorem cancelBook_unknown {t : Ticket} {p : Part} {c x y : Byte} (ht : t.body = [c, x, y])
    (hb : p.book? (nat2 x y) = none) : p.answerCancelBook t = ⟨p, .unknownBook, []⟩ := by
  simp only [answerCancelBook, ht, hb]
  rfl

theorem cancelBook_refused {t : Ticket} {p : Part} {b : Book} {c x y : Byte} (ht : t.body = [c, x, y])
    (hb : p.book? (nat2 x y) = some b) (hs : b.state = .closing ∨ b.state = .ended) :
    p.answerCancelBook t = ⟨p, .wrongState, be2 b.number ++ [byte b.state.code]⟩ := by
  simp only [answerCancelBook, ht, hb, if_pos hs]
  rfl

/-- What CANCEL BOOK answers of a record. -/
def cancelBytes (b c : Book) : List Byte :=
  be2 b.number ++ [c.generation, byte c.state.code, c.spoilReason.elim 0 fun r => byte r.code]

theorem cancelBook_spoils {t : Ticket} {p : Part} {b : Book} {c x y : Byte} (ht : t.body = [c, x, y])
    (hb : p.book? (nat2 x y) = some b) (hs : ¬(b.state = .closing ∨ b.state = .ended)) :
    p.answerCancelBook t =
      let q := (p.spoil b.number .cancelled true).follow
      ⟨q, .ok, cancelBytes b ((q.book? b.number).getD b)⟩ := by
  have hcode (o : Option SpoilReason) : codeOr0 SpoilReason.code o = o.elim 0 fun r => byte r.code := by
    cases o <;> rfl
  simp only [answerCancelBook, ht, hb, if_neg hs, hcode]
  rfl

end Part

/-- Settles O20: the checks stand in R45's order; past them the record and any staged copy change. -/
theorem amendBookCompletes : Obligations.AmendBookCompletes := by
  intro s it x y g l b p hex ht hb refused
  have hc : it.ticket.code = 48 := code_cons ht
  have hans := Part.amendBook_eq (p := p.popCommand) ht hb
  have ham : (!p.popCommand.amendable b) = true ↔
      b.state = .closing ∨ b.state = .spoiled ∨ b.state = .ended ∨ p.loaded b = true := Part.amendable_eq b p.popCommand
  refine ⟨fun hg => amendBookRow.gives hex hc (hans.trans (if_pos hg)), fun hg hs => ?_, fun hg hs hl => ⟨fun hr => ?_,
    fun h6 h60 => ?_⟩⟩
  · exact amendBookRow.gives hex hc ((hans.trans (if_neg (not_not.2 hg))).trans (if_pos (ham.2 hs)))
  all_goals
    have hok : ¬(!p.popCommand.amendable b) = true := by
      rw [ham]
      rcases hs with hs | hs | hs <;> simp [hs, hl]
    have hans' := (hans.trans (if_neg (not_not.2 hg))).trans (if_neg hok)
  · exact amendBookRow.gives hex hc (hans'.trans (if_pos (by simp [inRange]; omega)))
  · have hin : ¬(!inRange 6 60 l.toNat) = true := by simp [inRange]; omega
    refine ⟨_, amendBookRow.gives hex hc (hans'.trans (if_neg hin)), ?_⟩
    simp only [Part.placeReply_frame, Part.amend_eq]
    exact ⟨rfl, rfl, rfl⟩

/-- Settles O21: past the refusals the record is spoiled by the one `spoil`, and the reply shows it as it then stands. -/
theorem cancelBookCompletes : Obligations.CancelBookCompletes := by
  intro s it x y p hex ht
  have hc : it.ticket.code = 49 := code_cons ht
  refine ⟨fun hb => cancelBookRow.gives hex hc (Part.cancelBook_unknown (p := p.popCommand) ht hb), fun b hb => ?_⟩
  have hbook : p.popCommand.book? b.number = some b := (Part.book?_number hb) ▸ hb
  have hspoils (hs : ¬(b.state = .closing ∨ b.state = .ended)) :=
    cancelBookRow.gives hex hc (Part.cancelBook_spoils (p := p.popCommand) ht hb hs)
  have hblocks := Part.spoil_blocks b.number .cancelled true p.popCommand
  have hcmd : (p.popCommand.spoil b.number .cancelled true).cmd = p.popCommand.cmd := by simp
  have hstops (hl : p.sup.line = .idle ∨ p.sup.line = .halt) : (p.popCommand.spoil b.number .cancelled true).follow =
      p.popCommand.spoil b.number .cancelled true := Part.follow_stopped (by simpa using hl)
  refine ⟨fun hs => cancelBookRow.gives hex hc (Part.cancelBook_refused (p := p.popCommand) ht hb hs), fun hs => ?_,
    fun hs => ?_⟩
  · intro q
    obtain ⟨c, hfound, hstate, hreason, hexpected, hadmitted, -⟩ := Part.book?_spoil_fresh .cancelled true hbook hs
    refine ⟨c, _, hspoils (by rcases hs with h | h | h <;> simp [h]), hfound, hstate, hreason, hexpected, hadmitted,
      fun m hm => Part.book?_spoil_ne .cancelled true p.popCommand hm, ?_, ?_, fun x hx => ?_, fun hl => ?_⟩
    · exact hblocks.trans (by rw [show q.cmd = p.popCommand.cmd from hcmd]; rfl)
    · exact hcmd
    · rw [hx]
      rfl
    · rw [hstops hl, hfound]
      simp only [Option.getD_some, Part.cancelBytes, hreason]
      rfl
  · intro low ends c q
    have hmay : (Book.lowered true b).mayEnd = ends := by
      rw [Book.mayEnd_of_spoiled (by rw [Book.lowered_state, hs])]
      simp [Book.lowered, ends]
    obtain ⟨hfound, hothers, htail, hend⟩ := Part.spoil_spoiled_changed .cancelled true hbook hs
    have hc' : (Book.lowered true b).tested = c := by
      unfold Book.tested
      rw [hmay]
      rfl
    have hcloser := Part.spoil_closer_kept .cancelled true hbook (.inr hs)
    refine ⟨_, hspoils (by simp [hs]), by rw [hfound, hc'], hothers, htail, ?_, ?_, ?_, fun x hx => ?_, fun hl => ?_⟩
    · rw [hend, hmay]
      rfl
    · exact hblocks.trans (by rw [show q.cmd = p.popCommand.cmd from hcmd, hcloser]; rfl)
    · exact hcmd
    · rw [hx]
      rfl
    · rw [hstops hl, hfound, hc']
      have hreason : c.spoilReason = b.spoilReason := by
        show (if ends then _ else low).spoilReason = _
        split <;> rfl
      simp only [Option.getD_some, Part.cancelBytes, hreason]

/-- Settles O26: one case for each state of the record. -/
theorem spoilEffects : Obligations.SpoilEffects := by
  intro p n why lower q
  refine ⟨Part.spoil_none why lower, ?_⟩
  intro b hb low struck becomes
  have changes {c : Book} {x : Closer} (hs : c.state = .spoiled) (hi : c.id = b.id) (h : Part.RecordChanged p q n c)
      (hx : q.closer = x) : becomes c x := by
    have hends := Book.mayEnd_of_spoiled hs
    refine ⟨by rw [← hx]; exact Part.spoil_blocks n why lower p, h.tail, h.others, ?_, ?_⟩
    · rw [h.found, Book.tested, hends]
      rfl
    · rw [h.endOrder, hends, hi]
  have hfields (l : Bool) := Part.Book.spoiledBy_fields why l b
  refine ⟨fun hs => ⟨?_, fun k => ?_, ?_⟩, fun hs hw => ?_, fun hs h1 h2 => ?_, fun hs => ?_, fun hs => ?_⟩
  · have hlow : Book.spoiledBy why lower b = low struck := by
      cases lower <;> rfl
    exact changes (by rw [← hlow]; exact Part.Book.spoiledBy_state why lower b) (by rw [← hlow]; exact (hfields lower).2.1)
      (hlow ▸ Part.spoil_fresh_changed why lower hb hs) rfl
  · show (p.spoil n why lower).pocket k = _
    rw [Part.spoil_fresh_eq why lower hb hs, Part.pocket_endTest, Part.takeSpoiled_pocket]
  · have hq : q.closer = (p.takeSpoiled n why lower b).closer := by
      show (p.spoil n why lower).closer = _
      rw [Part.spoil_fresh_eq why lower hb hs]
      simp
    rw [hq]
    exact Part.takeSpoiled_closer_eq n why lower b p
  · exact changes (c := Book.spoiledBy why false b) (Part.Book.spoiledBy_state why false b) (hfields false).2.1
      (Part.spoil_closing_changed lower hb hs hw) (Part.spoil_closer_kept why lower hb (.inl hs))
  · show p.spoil n why lower = p
    rw [Part.spoil_closing_eq why lower hb hs, if_neg (by tauto)]
  · exact changes (c := Book.lowered lower b) ((Book.lowered_state lower b).trans hs) (Book.lowered_fields lower b).2.1
      (Part.spoil_spoiled_changed why lower hb hs) (Part.spoil_closer_kept why lower hb (.inr hs))
  · exact Part.spoil_ended_eq why lower hb hs

end Sys2Proof.Machine
end

section
/-! SUPPORT. LOAD PATTERN: its length rule, its field rule, its outcomes. -/

namespace Sys2Proof.Machine

/-! ### The length rule (R56) -/

/-- A body that its own counts fit. -/
def LoadGives (body : List Byte) (number die notch n m : Byte) (pins spindles : List Byte) : Prop :=
  body = [32, number, die, notch, n] ++ pins ++ m :: spindles ∧
  pins.length = n.toNat ∧ spindles.length = m.toNat ∧ n.toNat ≤ 48 ∧ m.toNat ≤ 4

/-- The fields of such a body. -/
def loadFieldsOf (number die notch : Byte) (pins spindles : List Byte) : LoadFields :=
  ⟨number.toNat, die.toNat, notch, pins.map BitVec.toNat, spindles.map BitVec.toNat⟩

theorem loadFields?_gives {body : List Byte} {number die notch n m : Byte} {pins spindles : List Byte}
    (h : LoadGives body number die notch n m pins spindles) :
    loadFields? body = some (loadFieldsOf number die notch pins spindles) := by
  obtain ⟨hbody, hn, hm, h48, h4⟩ := h
  have hdrop : (pins ++ m :: spindles).drop n.toNat = m :: spindles := by rw [← hn, List.drop_left]
  have htake : (pins ++ m :: spindles).take n.toNat = pins := by rw [← hn, List.take_left]
  rw [hbody]
  simp only [List.cons_append, List.nil_append, loadFields?, hdrop, htake,
    if_pos (show n.toNat ≤ 48 ∧ m.toNat ≤ 4 ∧ spindles.length = m.toNat from ⟨h48, h4, hm⟩)]
  rfl

theorem loadFields?_some {t : Ticket} (hc : t.code = 32) {f : LoadFields} (h : loadFields? t.body = some f) :
    ∃ number die notch n m pins spindles, LoadGives t.body number die notch n m pins spindles := by
  unfold loadFields? at h
  split at h
  · next c number die notch n rest hb =>
    split at h
    · next m spindles hd =>
      split at h
      · next hr =>
        obtain ⟨h48, h4, hm⟩ := hr
        have hcode : c = 32 := BitVec.eq_of_toNat_eq ((code_cons hb).symm.trans hc)
        have hrest : rest = rest.take n.toNat ++ m :: spindles := by
          rw [← hd, List.take_append_drop]
        have hlong : n.toNat ≤ rest.length := by
          by_contra hlt
          rw [List.drop_of_length_le (by omega)] at hd
          cases hd
        refine ⟨number, die, notch, n, m, rest.take n.toNat, spindles, ?_, by simpa using hlong, hm, h48, h4⟩
        rw [hb, hcode]
        simp [← hrest]
      · cases h
    · cases h
  · cases h

/-! ### The field rule (R56) -/

theorem Idx4.ofNat?_eq_some {n : Nat} {i : Idx4} : Idx4.ofNat? n = some i ↔ n = i.toNat := by
  constructor
  · intro h
    unfold Idx4.ofNat? at h
    split at h <;> simp only [Option.some.injEq, reduceCtorEq] at h <;> subst h <;> rfl
  · rintro rfl
    exact Idx4.ofNat?_toNat i

theorem Idx4.toNat_injective : Function.Injective Idx4.toNat := by
  intro i j h
  cases i <;> cases j <;> first | rfl | cases h

theorem mapM_ofNat?_eq_some {l : List Nat} {s : List Idx4} : l.mapM Idx4.ofNat? = some s ↔ l = s.map Idx4.toNat := by
  induction l generalizing s with
  | nil => cases s <;> simp
  | cons n l ih =>
    cases s with
    | nil =>
      simp only [List.mapM_cons, bind, pure, Option.bind_eq_some_iff, Option.some.injEq, List.map_nil, reduceCtorEq,
        and_false, exists_false]
    | cons i s =>
      simp only [List.mapM_cons, bind, pure, Option.bind_eq_some_iff, Option.some.injEq, List.cons.injEq, ih,
        Idx4.ofNat?_eq_some, List.map_cons]
      constructor
      · rintro ⟨_, rfl, _, rfl, rfl, rfl⟩
        exact ⟨rfl, rfl⟩
      · rintro ⟨rfl, rfl⟩
        exact ⟨_, rfl, _, rfl, rfl, rfl⟩

theorem exists_spindles {l : List Byte} (h : ∀ x ∈ l, 1 ≤ x.toNat ∧ x.toNat ≤ 4) :
    ∃ s : List Idx4, l.map BitVec.toNat = s.map Idx4.toNat := by
  induction l with
  | nil => exact ⟨[], rfl⟩
  | cons x l ih =>
    obtain ⟨s, hs⟩ := ih fun y hy => h y (by simp [hy])
    obtain ⟨h1, h4⟩ := h x (by simp)
    have hx : ∃ i : Idx4, x.toNat = i.toNat := by
      generalize x.toNat = n at h1 h4
      interval_cases n
      exacts [⟨.i1, rfl⟩, ⟨.i2, rfl⟩, ⟨.i3, rfl⟩, ⟨.i4, rfl⟩]
    obtain ⟨i, hi⟩ := hx
    exact ⟨i :: s, by simp [hs, hi]⟩

theorem nodup_spindles {l : List Byte} {s : List Idx4} (h : l.map BitVec.toNat = s.map Idx4.toNat) :
    s.Nodup ↔ l.Nodup := by
  rw [← List.nodup_map_iff Idx4.toNat_injective, ← h,
    List.nodup_map_iff fun _ _ hx => BitVec.eq_of_toNat_eq hx]

/-- The spindles of a body in ascending order. -/
def spindlesOf (l : List Byte) : List Idx4 := Idx4.all.filter fun i => l.any fun x => x.toNat == i.toNat

theorem sorted_spindles {l : List Byte} {s : List Idx4} (h : l.map BitVec.toNat = s.map Idx4.toNat) :
    Idx4.sorted s = spindlesOf l := by
  unfold Idx4.sorted spindlesOf
  refine List.filter_congr fun i _ => ?_
  have hmem : i ∈ s ↔ ∃ x ∈ l, x.toNat = i.toNat := by
    rw [← List.mem_map_of_injective Idx4.toNat_injective, ← h, List.mem_map]
  rw [Bool.eq_iff_iff, List.contains_iff_mem, hmem]
  simp

theorem yesNoField?_eq_some {b : Byte} {x : Bool} : yesNoField? b = some x ↔ (b = 1 ∨ b = 2) ∧ x = (b == 1) := by
  unfold yesNoField?
  by_cases h1 : b = 1
  · simp [h1, eq_comm]
  · by_cases h2 : b = 2
    · simp [h2, eq_comm]
    · rw [if_neg h1, if_neg h2]
      simp only [reduceCtorEq, false_iff]
      rintro ⟨h | h, -⟩
      exacts [h1 h, h2 h]

theorem ascending_iff : ∀ l : List Nat, ascending l = true ↔ l.Pairwise (· < ·)
  | [] => by simp [ascending]
  | [_] => by simp [ascending]
  | a :: b :: rest => by
    rw [← List.isChain_iff_pairwise, List.isChain_cons_cons, List.isChain_iff_pairwise, ← ascending_iff (b :: rest)]
    simp [ascending]

theorem LoadFields.pattern?_eq {f : LoadFields} {x : Bool} {s : List Idx4} (hx : yesNoField? f.notch = some x)
    (hs : f.spindles.mapM Idx4.ofNat? = some s) : f.pattern? =
      if inRange 1 63 f.number && inRange 1 7 f.die && f.pins.all (inRange 1 48) && ascending f.pins &&
          decide s.Nodup then some ⟨.kind f.die, f.pins, x, Idx4.sorted s⟩ else none := by
  simp only [LoadFields.pattern?, hx, hs]

/-- The ranges and orders of R56. -/
def LoadGood (number die notch : Byte) (pins spindles : List Byte) : Prop :=
  1 ≤ number.toNat ∧ number.toNat ≤ 63 ∧ 1 ≤ die.toNat ∧ die.toNat ≤ 7 ∧
  (∀ c ∈ pins, 1 ≤ c.toNat ∧ c.toNat ≤ 48) ∧ (pins.map BitVec.toNat).Pairwise (· < ·) ∧
  (notch = 1 ∨ notch = 2) ∧ (∀ x ∈ spindles, 1 ≤ x.toNat ∧ x.toNat ≤ 4) ∧ spindles.Nodup

/-- The pattern that good fields give. -/
def loadedPattern (die notch : Byte) (pins spindles : List Byte) : PatternDef :=
  ⟨.kind die.toNat, pins.map BitVec.toNat, notch == 1, spindlesOf spindles⟩

theorem loadFieldsOf_pattern_good {number die notch : Byte} {pins spindles : List Byte}
    (h : LoadGood number die notch pins spindles) :
    (loadFieldsOf number die notch pins spindles).pattern? = some (loadedPattern die notch pins spindles) := by
  obtain ⟨h1, h63, hd1, hd7, hpins, hasc, hnotch, hsp, hnodup⟩ := h
  obtain ⟨s, hs⟩ := exists_spindles hsp
  rw [LoadFields.pattern?_eq (f := loadFieldsOf number die notch pins spindles) (yesNoField?_eq_some.2 ⟨hnotch, rfl⟩)
    (mapM_ofNat?_eq_some.2 hs), if_pos, sorted_spindles hs]
  · rfl
  · simp only [loadFieldsOf, Bool.and_eq_true, inRange_iff, List.all_eq_true, List.mem_map, forall_exists_index, and_imp,
      forall_apply_eq_imp_iff₂, ascending_iff, decide_eq_true_eq, nodup_spindles hs]
    exact ⟨⟨⟨⟨⟨h1, h63⟩, hd1, hd7⟩, hpins⟩, hasc⟩, hnodup⟩

theorem loadFieldsOf_pattern_bad {number die notch : Byte} {pins spindles : List Byte}
    (h : ¬LoadGood number die notch pins spindles) : (loadFieldsOf number die notch pins spindles).pattern? = none := by
  cases hx : yesNoField? (loadFieldsOf number die notch pins spindles).notch with
  | none => simp only [LoadFields.pattern?, hx]
  | some x =>
  cases hs : (loadFieldsOf number die notch pins spindles).spindles.mapM Idx4.ofNat? with
  | none => simp only [LoadFields.pattern?, hx, hs]
  | some s =>
    have hs' : spindles.map BitVec.toNat = s.map Idx4.toNat := mapM_ofNat?_eq_some.1 hs
    rw [LoadFields.pattern?_eq hx hs, if_neg]
    intro hgood
    simp only [loadFieldsOf, Bool.and_eq_true, inRange_iff, List.all_eq_true, List.mem_map, forall_exists_index, and_imp,
      forall_apply_eq_imp_iff₂, ascending_iff, decide_eq_true_eq, nodup_spindles hs'] at hgood
    obtain ⟨⟨⟨⟨⟨h1, h63⟩, hd1, hd7⟩, hpins⟩, hasc⟩, hnodup⟩ := hgood
    refine h ⟨h1, h63, hd1, hd7, hpins, hasc, (yesNoField?_eq_some.1 hx).1, fun y hy => ?_, hnodup⟩
    have hmem : y.toNat ∈ s.map Idx4.toNat := hs' ▸ List.mem_map_of_mem hy
    obtain ⟨i, -, hi⟩ := List.mem_map.1 hmem
    rw [← hi]
    cases i <;> decide

namespace Part

/-! ### An entry is loaded -/

/-- The entry of a number takes a pattern, its use count kept (R56). -/
def fillPattern (n : Nat) (d : PatternDef) (p : Part) : Part := p.setPattern n fun x => { x with loaded := some d }

theorem pattern?_fillPattern {n : Nat} (hn : n < 64) (m : Nat) (d : PatternDef) (p : Part) :
    (p.fillPattern n d).pattern? m = if m = n then some d else p.pattern? m := by
  rw [fillPattern, pattern?_setPattern]
  by_cases hm : m < 64
  · simp [hm]
  · have hne : m ≠ n := by omega
    simp [hm, hne, pattern?]

@[simp] theorem useCount_fillPattern (n m : Nat) (d : PatternDef) (p : Part) :
    (p.fillPattern n d).useCount m = p.useCount m := by
  rw [fillPattern, useCount_setPattern]
  by_cases hm : m < 64
  · simp [hm, useCount]
  · simp [hm, useCount]

/-! ### LOAD PATTERN -/

theorem loadPattern_badLength {t : Ticket} (h : loadFields? t.body = none) (p : Part) :
    p.answerLoadPattern t = ⟨p, .badLength, []⟩ := by
  simp only [answerLoadPattern, h]
  rfl

theorem loadPattern_badField {t : Ticket} {f : LoadFields} (h : loadFields? t.body = some f) (hf : f.pattern? = none)
    (p : Part) : p.answerLoadPattern t = ⟨p, .badField, []⟩ := by
  simp only [answerLoadPattern, h, hf]
  rfl

theorem loadPattern_fields {t : Ticket} {f : LoadFields} {d : PatternDef} (h : loadFields? t.body = some f)
    (hf : f.pattern? = some d) (p : Part) : p.answerLoadPattern t =
      if 0 < p.useCount f.number then ⟨p, .inUse, p.patternBytes f.number⟩
      else ⟨p.fillPattern f.number d, .ok, (p.fillPattern f.number d).patternBytes f.number⟩ := by
  simp only [answerLoadPattern, h, hf]
  rfl

end Part

/-- Settles O13: the length rule, the field rule, the use count, in R56's order. -/
theorem loadPatternCompletes : Obligations.LoadPatternCompletes := by
  intro s it p hex hc refused gives
  refine ⟨fun hno => ?_, ?_⟩
  · have hnone : loadFields? it.ticket.body = none := by
      cases h : loadFields? it.ticket.body with
      | none => rfl
      | some f => exact absurd (loadFields?_some hc h) hno
    exact loadPatternRow.gives hex hc (Part.loadPattern_badLength hnone _)
  · intro number die notch n m pins spindles hgives k good d
    have hfields := loadFields?_gives hgives
    refine ⟨fun hbad => ?_, fun hgood hu => ?_, fun hgood hu => ?_⟩
    · exact loadPatternRow.gives hex hc (Part.loadPattern_badField hfields (loadFieldsOf_pattern_bad hbad) _)
    all_goals have hans := Part.loadPattern_fields hfields (loadFieldsOf_pattern_good hgood) p.popCommand
    · have hbytes := Part.patternBytes_byte number p.popCommand
      exact loadPatternRow.gives hex hc ((hans.trans (if_pos hu)).trans (congrArg _ hbytes))
    · have hk : k < 64 := by have := hgood.2.1; omega
      have hread (j : Nat) := Part.pattern?_fillPattern hk j (loadedPattern die notch pins spindles) p.popCommand
      have hbytes : (p.popCommand.fillPattern k (loadedPattern die notch pins spindles)).patternBytes k =
          [number, 2, 0] := by
        rw [Part.patternBytes_byte, hread, if_pos rfl, Part.useCount_fillPattern, Part.useCount_popCommand, hu]
        rfl
      refine ⟨_, loadPatternRow.gives hex hc ((hans.trans (if_neg (Nat.not_lt.2 (Nat.le_of_eq hu)))).trans (congrArg _ hbytes)), ?_,
        fun j => ?_, fun j hj => ?_, ?_⟩
      · rw [Part.pattern?_placeReply]
        exact (hread k).trans (if_pos rfl)
      · rw [Part.useCount_placeReply]
        exact Part.useCount_fillPattern k j _ _
      · rw [Part.pattern?_placeReply]
        exact (hread j).trans (if_neg hj)
      · simp only [Part.placeReply_frame]
        rfl

end Sys2Proof.Machine
end

section
/-! SUPPORT. The wire: what is sent between START and END reads back, and the bytes of the payloads' parts. -/

namespace Sys2Proof.Machine

/-! ### The check of a received ticket (R170) -/

theorem parseTicket_wire {t : Ticket} (h : t.body.length ≤ 250) : parseTicket t.wire = some t := by
  have hlen : (byte t.body.length).toNat = t.body.length := by
    simp only [byte, BitVec.toNat_ofNat]
    omega
  have hwire : t.wire = t.kind :: t.dest :: t.flags :: t.tag :: byte t.body.length ::
      (t.body ++ be2 (crc t.head).toNat) := by
    simp [Ticket.wire, Ticket.head]
  have htake : (t.body ++ be2 (crc t.head).toNat).take t.body.length = t.body := List.take_left
  have hdrop : (t.body ++ be2 (crc t.head).toNat).drop t.body.length = be2 (crc t.head).toNat := List.drop_left
  rw [hwire]
  simp only [parseTicket, hlen, htake, hdrop]
  rw [if_pos ⟨h, by simp [be2], trivial⟩]

theorem parseTicket_eq_some {bytes : List Byte} {t : Ticket} :
    parseTicket bytes = some t ↔ t.body.length ≤ 250 ∧ bytes = t.wire := by
  refine ⟨fun h => ?_, fun ⟨hl, hw⟩ => hw ▸ parseTicket_wire hl⟩
  unfold parseTicket at h
  split at h
  · next kind dest flags tag len rest =>
    dsimp only at h
    split at h
    · next hc =>
      obtain ⟨hmax, hrest, hcrc⟩ := hc
      obtain rfl := (Option.some.inj h).symm
      have htake : (rest.take len.toNat).length = len.toNat := by simp; omega
      refine ⟨by rw [htake]; exact hmax, ?_⟩
      have hwire (t : Ticket) : t.wire = t.kind :: t.dest :: t.flags :: t.tag :: byte t.body.length ::
          (t.body ++ be2 (crc t.head).toNat) := by
        simp [Ticket.wire, Ticket.head]
      rw [hwire, ← hcrc]
      dsimp only
      rw [htake, byte_toNat, List.take_append_drop]
    · cases h
  · cases h

/-! ### The CRC, bit by bit (R169) -/

/-- One bit of the CRC. -/
def crcBit (c : BitVec 16) : BitVec 16 := if c.msb then (c <<< 1) ^^^ 0x1021#16 else c <<< 1

theorem crcShift_eq (n : Nat) (c : BitVec 16) : crcShift n c = crcBit^[n] c := by
  induction n generalizing c with
  | zero => rfl
  | succ n ih =>
    rw [crcShift, ih, Function.iterate_succ_apply]
    rfl

theorem crc_append (l : List Byte) (b : Byte) : crc (l ++ [b]) = crcBit^[8] (crc l ^^^ (b.setWidth 16 <<< 8)) := by
  rw [← crcShift_eq]
  simp [crc, crcByte, List.foldl_append]

/-! ### Causes without details -/

theorem plainCause_detail {h : Cause} (hh : h ∈ [Cause.supplyLow, .driverShutdown, .timebaseLost, .externalStop,
    .haltRequest]) : h.detail = [0, 0, 0, 0] := by
  simp only [List.mem_cons, List.not_mem_nil, or_false] at hh
  rcases hh with rfl | rfl | rfl | rfl | rfl <;> rfl

/-! ### Placing a reply -/

theorem placeReply_broadcast {it : Item} (h : it.ticket.dest = 0) (r : ResultCode) (l : List Byte) (p : Part) :
    p.placeReply it r l = p := by
  unfold Part.placeReply Item.addressed
  simp [h]

theorem placeReply_addressed {it : Item} (h : it.ticket.dest ≠ 0) (r : ResultCode) (l : List Byte) (p : Part) :
    p.placeReply it r l = { p with port := { p.port with
      outList := p.port.outList ++ [⟨{
        kind := 4, dest := 0, flags := 0, tag := it.ticket.tag
        body := [byte p.port.unitAddress, byte it.ticket.code, byte r.code] ++ l }, none⟩] } } := by
  have ha : it.addressed = true := bne_iff_ne.2 h
  unfold Part.placeReply
  rw [if_pos ha]
  rfl

/-- Settles O23: the check inverts the sending; the CRC is the shift of each bit; the codes are read off their tables. -/
theorem wireReadsBack : Obligations.WireReadsBack := by
  refine ⟨fun t h => parseTicket_wire h, fun bytes t => parseTicket_eq_some, ?_, ⟨rfl, crc_append⟩, fun n => ⟨rfl, rfl⟩,
    fun h => rfl, fun a b => rfl, fun c => rfl, rfl, rfl, fun f => ⟨rfl, fun x => rfl, fun l => rfl⟩, fun a b c => rfl,
    rfl, rfl, rfl, rfl, rfl, rfl, rfl, rfl, rfl, rfl, rfl, rfl, rfl, rfl, rfl, rfl, rfl, rfl, rfl, rfl, fun n => rfl, rfl,
    rfl, rfl, rfl, rfl, ?_, rfl, rfl, fun p it r payload => ⟨rfl, fun h => placeReply_addressed h r payload p,
      fun h => placeReply_broadcast h r payload p⟩⟩
  · intro t
    refine ⟨rfl, rfl, ?_⟩
    unfold Ticket.code
    cases t.body <;> rfl
  · intro a b c d e f g h
    exact ⟨rfl, rfl, rfl, rfl, rfl, rfl, rfl, rfl, rfl, rfl, rfl, rfl, rfl, rfl, rfl, rfl, plainCause_detail⟩

end Sys2Proof.Machine
end

section
/-! SUPPORT. The Ticket Port's reception and classification: a whole ticket, single symbols, the head of the receive
buffer. -/

namespace Sys2Proof.Machine

namespace Part

/-! ### Reception (R170, R171) -/

theorem startSymbol_refused {p : Part} (h : 4 ≤ p.port.rxBuf.length) :
    p.startSymbol = { p with port := { p.port with rx := .refused, linkError := true } } := by
  have h' : Config.rxPlaces ≤ p.port.rxBuf.length := h
  simp only [startSymbol, onPort, if_pos h']

theorem startSymbol_outside {p : Part} (h : p.port.rx = .outside ∨ p.port.rx = .refused) (hn : p.port.rxBuf.length < 4) :
    p.startSymbol = { p with port := { p.port with rx := .inside [] } } := by
  have hn' : ¬Config.rxPlaces ≤ p.port.rxBuf.length := Nat.not_le.2 hn
  rcases h with h | h <;> simp only [startSymbol, onPort, h, if_neg hn', Bool.or_false]

theorem startSymbol_inside {p : Part} {l : List Byte} (h : p.port.rx = .inside l) (hn : p.port.rxBuf.length < 4) :
    p.startSymbol = { p with port := { p.port with rx := .inside [], linkError := true } } := by
  have hn' : ¬Config.rxPlaces ≤ p.port.rxBuf.length := Nat.not_le.2 hn
  simp only [startSymbol, onPort, h, if_neg hn', Bool.or_true]

theorem discard_startSymbol (p : Part) : p.startSymbol.discard = p.discard := by
  unfold startSymbol
  by_cases h : Config.rxPlaces ≤ p.port.rxBuf.length
  · simp only [onPort, if_pos h]
    rfl
  · simp only [onPort, if_neg h]
    rfl

theorem endTicket_good {bytes : List Byte} {t : Ticket} (h : parseTicket bytes = some t) (p : Part) :
    p.endTicket bytes = { p with port := { p.port with rx := .outside, rxBuf := p.port.rxBuf ++ [⟨t, false⟩] } } := by
  simp only [endTicket, h]
  rfl

theorem endTicket_bad {bytes : List Byte} (h : parseTicket bytes = none) (p : Part) : p.endTicket bytes = p.discard := by
  simp only [endTicket, h]

/-- The part in which the END of a whole ticket is judged (log 9). -/
def awaitsEnd (p : Part) : Part :=
  match p.port.rx with
  | .inside [] => p
  | .refused => p
  | .outside | .inside (_ :: _) => p.startSymbol

theorem ticketArrives_eq (bytes : List Byte) (close : TicketClose) (p : Part) : p.ticketArrives bytes close =
    match p.awaitsEnd.port.rx, close with
    | .inside _, .endSymbol => p.awaitsEnd.endTicket bytes
    | _, _ => p.awaitsEnd.discard := rfl

theorem discard_awaitsEnd (p : Part) : p.awaitsEnd.discard = p.discard := by
  unfold awaitsEnd
  split
  · rfl
  · rfl
  all_goals exact discard_startSymbol p

theorem ticketArrives_inside {p : Part} {l : List Byte} (h : p.awaitsEnd.port.rx = .inside l) (bytes : List Byte) :
    p.ticketArrives bytes .endSymbol = p.awaitsEnd.endTicket bytes := by
  simp only [ticketArrives_eq, h]

theorem ticketArrives_discarded {p : Part} {bytes : List Byte} {close : TicketClose}
    (h : parseTicket bytes = none ∨ close ≠ .endSymbol ∨ p.port.rx = .refused ∨
      (4 ≤ p.port.rxBuf.length ∧ p.port.rx ≠ .inside [])) :
    p.ticketArrives bytes close = { p with port := { p.port with rx := .outside, linkError := true } } := by
  have hdiscard : p.discard = { p with port := { p.port with rx := .outside, linkError := true } } := rfl
  rw [ticketArrives_eq, ← hdiscard]
  split
  · next l hl =>
    rcases h with h | h | h | ⟨hfull, hne⟩
    · exact (endTicket_bad h _).trans (discard_awaitsEnd p)
    · exact absurd rfl h
    · rw [awaitsEnd, h] at hl
      exact absurd (h.symm.trans hl) (by simp)
    · exfalso
      unfold awaitsEnd at hl
      split at hl
      · next hr => exact hne hr
      · next hr => exact absurd (hr.symm.trans hl) (by simp)
      all_goals rw [startSymbol_refused hfull] at hl; exact absurd hl (by simp)
  · exact discard_awaitsEnd p

/-- The part with the link error flag set. -/
def linkErrorSet (p : Part) : Part := p.onPort fun x => { x with linkError := true }

theorem symbolArrives_outside {p : Part} (h : p.port.rx = .outside) (y : StraySymbol) :
    p.symbolArrives y = p.linkErrorSet := by
  simp only [symbolArrives, h]
  rfl

theorem symbolArrives_refused {p : Part} (h : p.port.rx = .refused) {y : StraySymbol} (hy : y ≠ .endSymbol) :
    p.symbolArrives y = p.linkErrorSet := by
  cases y with
  | endSymbol => exact absurd rfl hy
  | dataByte b =>
    simp only [symbolArrives, h]
    rfl
  | invalidSymbol =>
    simp only [symbolArrives, h]
    rfl

/-! ### Classification (R173 to R177) -/

theorem addressedHere_iff (t : Ticket) (p : Part) : p.addressedHere t = true ↔
    t.dest.toNat = p.port.unitAddress ∧ 1 ≤ p.port.unitAddress ∧ p.port.unitAddress ≤ 31 := by
  simp [addressedHere, inRange]
  tauto

/-- A broadcast request that the unit honours (R176). -/
def HonouredBroadcast (t : Ticket) : Prop := t.dest = 0 ∧ t.code ∈ [16, 17, 18, 20, 21]

theorem honoured_iff (t : Ticket) : (t.dest = 0 ∧ t.body ≠ [] ∧ honoured t.code = true) ↔ HonouredBroadcast t := by
  have hcode : honoured t.code = true ↔ t.code ∈ [16, 17, 18, 20, 21] := by simp [honoured, or_assoc]
  unfold HonouredBroadcast
  rw [hcode]
  refine ⟨fun ⟨h0, _, hc⟩ => ⟨h0, hc⟩, fun ⟨h0, hc⟩ => ⟨h0, fun he => ?_, hc⟩⟩
  simp [Ticket.code, he] at hc

section
variable {t : Ticket} {p : Part}

theorem classOf_sheet (hk : t.kind = 1) (h : p.addressedHere t = true) : p.classOf ⟨t, false⟩ = .sheet := by
  simp [classOf, Config.kindSheet, hk, h]

theorem classOf_request (hk : t.kind = 3) (h : p.addressedHere t = true) : p.classOf ⟨t, false⟩ = .request := by
  simp [classOf, Config.kindSheet, Config.kindRequest, hk, h]

theorem classOf_broadcast (hk : t.kind = 3) (h : ¬p.addressedHere t = true) (hh : HonouredBroadcast t) :
    p.classOf ⟨t, false⟩ = .broadcast := by
  obtain ⟨h0, hb, hc⟩ := (honoured_iff t).2 hh
  simp [classOf, Config.kindSheet, Config.kindRequest, hk, h, h0, hb, hc]

theorem classOf_passThrough (h1 : t.kind = 1 → ¬p.addressedHere t = true)
    (h3 : t.kind = 3 → ¬p.addressedHere t = true ∧ ¬HonouredBroadcast t) : p.classOf ⟨t, false⟩ = .passThrough := by
  have hs : ¬(t.kind = Config.kindSheet ∧ p.addressedHere t = true) := fun ⟨hk, ha⟩ => h1 hk ha
  have hr : ¬(t.kind = Config.kindRequest ∧ p.addressedHere t = true) := fun ⟨hk, ha⟩ => (h3 hk).1 ha
  have hb : ¬(t.kind = Config.kindRequest ∧ t.dest = 0 ∧ t.body ≠ [] ∧ honoured t.code = true) :=
    fun ⟨hk, hh⟩ => (h3 hk).2 ((honoured_iff t).1 hh)
  unfold classOf
  rw [if_neg (by simp)]
  dsimp only
  rw [if_neg hs, if_neg hr, if_neg hb]

theorem classOf_turned : p.classOf ⟨t, true⟩ = .turned := rfl

end

/-! #### The mark (R23, R177) -/

/-- The queue with one entry marked, where a mark is given. -/
def markedQueue (m : Option Nat) (l : List Entry) : List Entry :=
  l.map fun e => if m = some e.id then { e with fenceMark := true } else e

theorem markEntry_eq (m : Option Nat) (p : Part) : p.markEntry m =
    { p with tracker := { p.tracker with queue := markedQueue m p.tracker.queue } } := by
  unfold markEntry markedQueue
  cases m with
  | none => simp
  | some i => simp only [onTracker, Option.some.injEq, eq_comm]

theorem markedQueue_twice (m : Option Nat) (l : List Entry) : markedQueue m (markedQueue m l) = markedQueue m l := by
  unfold markedQueue
  rw [List.map_map]
  refine List.map_congr_left fun e _ => ?_
  by_cases h : m = some e.id <;> simp [h]

theorem markOf_marked (t : Ticket) (m : Option Nat) (p : Part) :
    (p.markEntry m).markOf t = p.markOf t := by
  have hid (l : List Entry) : (markedQueue m l).getLast?.map Entry.id = l.getLast?.map Entry.id := by
    rw [← List.getLast?_map, ← List.getLast?_map, markedQueue, List.map_map]
    congr 1
    refine List.map_congr_left fun e _ => ?_
    by_cases h : m = some e.id <;> simp [h]
  unfold markOf
  rw [markEntry_eq, hid]

theorem placeCommand_eq (t : Ticket) (p : Part) : p.placeCommand t = { p with
    cmd := { p.cmd with list := p.cmd.list ++ [⟨t, p.markOf t⟩] }
    tracker := { p.tracker with queue := markedQueue (p.markOf t) p.tracker.queue } } := by
  unfold placeCommand
  rw [markEntry_eq]
  rfl

theorem placeOut_eq (t : Ticket) (p : Part) : p.placeOut t = { p with
    port := { p.port with outList := p.port.outList ++ [⟨t, p.markOf t⟩] }
    tracker := { p.tracker with queue := markedQueue (p.markOf t) p.tracker.queue } } := by
  unfold placeOut
  rw [markEntry_eq]
  rfl

theorem placeBoth_eq (t : Ticket) (p : Part) : (p.placeCommand t).placeOut t = { p with
    cmd := { p.cmd with list := p.cmd.list ++ [⟨t, p.markOf t⟩] }
    port := { p.port with outList := p.port.outList ++ [⟨t, p.markOf t⟩] }
    tracker := { p.tracker with queue := markedQueue (p.markOf t) p.tracker.queue } } := by
  have hmark : (p.placeCommand t).markOf t = p.markOf t := markOf_marked t (p.markOf t) p
  rw [placeOut_eq, hmark, placeCommand_eq]
  dsimp only
  rw [markedQueue_twice]

section
variable {x : RxItem} {rest : List RxItem} {p : Part} (hb : p.port.rxBuf = x :: rest)
include hb

theorem classifyHead_turned (hc : p.classOf x = .turned) : p.classifyHead = p.popRx.placeTurned x.ticket := by
  simp only [classifyHead, hb, hc]

theorem classifyHead_passThrough (hc : p.classOf x = .passThrough) : p.classifyHead = p.popRx.placeOut x.ticket := by
  simp only [classifyHead, hb, hc]

theorem classifyHead_request (hc : p.classOf x = .request) : p.classifyHead = p.popRx.placeCommand x.ticket := by
  simp only [classifyHead, hb, hc]

theorem classifyHead_broadcast (hc : p.classOf x = .broadcast) :
    p.classifyHead = (p.popRx.placeCommand x.ticket).placeOut x.ticket := by
  simp only [classifyHead, hb, hc]

end

theorem eligible_iff (it : Item) (p : Part) :
    p.eligible it = true ↔ ∀ i, it.mark = some i → ∀ e ∈ p.tracker.queue, e.id ≠ i := by
  unfold eligible
  cases it.mark with
  | none => simp
  | some i => simp

end Part

/-! #### The row -/

section
variable {s : State} {x : RxItem} {rest : List RxItem} {c : TicketClass} (hb : s.toPart.port.rxBuf = x :: rest)
  (hc : s.toPart.classOf x = c)
include hb hc

theorem classified_waits (hs : c = .sheet ∨ s.toPart.hasSpace c = false) :
    exec .ticketClassified s = .next (s.withPart s.toPart) := by
  refine internal_not_due (d := .classify) ?_
  simp only [Part.isDue, Part.classable, hb, hc]
  rcases hs with rfl | hs
  · split <;> simp
  · simp [hs]

theorem classified_leaves (hne : c ≠ .sheet) (hs : s.toPart.hasSpace c = true) {q : Part}
    (hq : s.toPart.classifyHead = q) : exec .ticketClassified s = .next (s.withPart q) := by
  refine internal_gives (d := .classify) ?_ hq
  simp [Part.isDue, Part.classable, hb, hc, hs, hne]

end

/-- Settles O22: the START taken before the ticket, if any, decides how its END is judged. -/
theorem ticketReceivedCompletes : Obligations.TicketReceivedCompletes := by
  intro s p hp leaves
  refine ⟨fun t ht => ?_, fun bytes close h => external_gives hp (Part.ticketArrives_discarded h)⟩
  intro arrives buffered
  have hparse := parseTicket_wire ht
  refine ⟨fun hr hn => external_gives hp ?_, fun hr => external_gives hp ?_, fun b bytes hr hn => external_gives hp ?_⟩
  · have haw : p.awaitsEnd = { p with port := { p.port with rx := .inside [] } } := by
      simp only [Part.awaitsEnd, hr, Part.startSymbol_outside (.inl hr) hn]
    rw [Part.ticketArrives_inside (by rw [haw]), haw, Part.endTicket_good hparse]
  · have haw : p.awaitsEnd = p := by simp only [Part.awaitsEnd, hr]
    rw [Part.ticketArrives_inside (haw.symm ▸ hr), haw, Part.endTicket_good hparse]
  · have haw : p.awaitsEnd = { p with port := { p.port with rx := .inside [], linkError := true } } := by
      simp only [Part.awaitsEnd, hr, Part.startSymbol_inside hr hn]
    rw [Part.ticketArrives_inside (by rw [haw]), haw, Part.endTicket_good hparse]

/-- Settles O24: one case for each symbol and each state of reception. -/
theorem linkSymbolsComplete : Obligations.LinkSymbolsComplete := by
  intro s p hp leaves
  refine ⟨fun hr hn => external_gives hp (Part.startSymbol_outside hr hn), fun bytes hr hn =>
    external_gives hp (Part.startSymbol_inside hr hn), fun hn => external_gives hp (Part.startSymbol_refused hn),
    fun y hr => external_gives hp (Part.symbolArrives_outside hr y), fun bytes hr => ?_, fun hr =>
    ⟨external_gives hp ?_, fun y hy => external_gives hp (Part.symbolArrives_refused hr hy)⟩,
    fun x => external_gives hp rfl⟩
  · intro discarded
    refine ⟨fun b hl => external_gives hp ?_, fun b hl => external_gives hp ?_, fun t ht => external_gives hp ?_,
      fun ht => external_gives hp ?_, external_gives hp ?_⟩
    · simp only [Part.symbolArrives, hr, if_neg (show ¬Config.maxTicketBytes ≤ bytes.length from Nat.not_le.2 hl)]
      rfl
    · simp only [Part.symbolArrives, hr, if_pos (show Config.maxTicketBytes ≤ bytes.length from hl)]
      rfl
    · simp only [Part.symbolArrives, hr, Part.endTicket_good ht]
    · simp only [Part.symbolArrives, hr, Part.endTicket_bad ht]
      rfl
    · simp only [Part.symbolArrives, hr]
      rfl
  · simp only [Part.symbolArrives, hr]
    rfl

/-- Settles O25: the class of the head, then its space, then its places. -/
theorem ticketClassifiedCompletes : Obligations.TicketClassifiedCompletes := by
  intro s t rest p here honoured mark marked commands popped out passes becomes
  have hhere : p.addressedHere t = true ↔ here := Part.addressedHere_iff t p
  refine ⟨fun hb => ⟨fun hk ha hn => ?_, fun hk ha hn => ?_, fun hk ha hh hn ho => ?_, fun hk ha hh hn => ?_,
    fun hpass ho => ?_, fun hpass ho => ?_, fun hk ha => ?_⟩, fun hb => ⟨fun ho => ?_, fun ho => ?_⟩,
    fun q it => Part.eligible_iff it q⟩
  all_goals
    have hpop : p.popRx = { p with port := popped } := by
      show p.onPort _ = _
      simp only [Part.onPort, hb, List.tail_cons]
      rfl

  · have hc := Part.classOf_request hk (hhere.2 ha)
    refine classified_leaves hb hc (by simp) (decide_eq_true hn) ?_
    rw [Part.classifyHead_request hb hc, Part.placeCommand_eq, hpop]
    rfl
  · exact classified_waits hb (Part.classOf_request hk (hhere.2 ha)) (.inr (decide_eq_false (Nat.not_lt.2 hn)))
  · have hc := Part.classOf_broadcast hk (fun h => ha (hhere.1 h)) hh
    refine classified_leaves hb hc (by simp) (Bool.and_eq_true_iff.2 ⟨decide_eq_true hn, decide_eq_true ho⟩) ?_
    rw [Part.classifyHead_broadcast hb hc, Part.placeBoth_eq, hpop]
    rfl
  · refine classified_waits hb (Part.classOf_broadcast hk (fun h => ha (hhere.1 h)) hh) (.inr ?_)
    exact Bool.and_eq_false_iff.2 (hn.imp (fun h => decide_eq_false (Nat.not_lt.2 h)) fun h =>
      decide_eq_false (by rw [h]; decide))
  · have hc := Part.classOf_passThrough (fun hk h => hpass.1 hk (hhere.1 h))
      fun hk => ⟨fun h => (hpass.2 hk).1 (hhere.1 h), (hpass.2 hk).2⟩
    refine classified_leaves hb hc (by simp) (by simp [Part.hasSpace]; exact ho) ?_
    rw [Part.classifyHead_passThrough hb hc, Part.placeOut_eq, hpop]
    rfl
  · have hc := Part.classOf_passThrough (fun hk h => hpass.1 hk (hhere.1 h))
      fun hk => ⟨fun h => (hpass.2 hk).1 (hhere.1 h), (hpass.2 hk).2⟩
    exact classified_waits hb hc (.inr (by simp [Part.hasSpace]; exact ho))
  · exact classified_waits hb (Part.classOf_sheet hk (hhere.2 ha)) (.inl rfl)
  · refine classified_leaves hb Part.classOf_turned (by simp) (by simp [Part.hasSpace]; exact ho) ?_
    rw [Part.classifyHead_turned hb Part.classOf_turned, hpop]
    rfl
  · exact classified_waits hb Part.classOf_turned (.inr (by simp [Part.hasSpace]; exact ho))

end Sys2Proof.Machine
end

section
/-! SUPPORT. The transmitter: what a ticket boundary begins, the bodies of notices and reports, and what the END of a
sent ticket does. -/

namespace Sys2Proof.Machine

/-! ### Bodies field by field (R188, R189) -/

theorem flatMap_single {α : Type} (f : α → Byte) (l : List α) : (l.flatMap fun x => [f x]) = l.map f := by
  induction l with
  | nil => rfl
  | cons x l ih => rw [List.flatMap_cons, ih]; rfl

theorem codeOr0_eq {α : Type} (f : α → Nat) (o : Option α) : codeOr0 f o = byte ((o.map f).getD 0) := by
  cases o <;> rfl

theorem be2_headSequence (o : Option Half) : halfBytes (o.getD 0) = be2 (o.elim 0 BitVec.toNat) := by
  cases o <;> rfl

theorem be2_resumeSequence (o : Option ResumePoint) :
    halfBytes (o.elim 0 ResumePoint.sequence) = be2 (o.elim 0 fun r => r.sequence.toNat) := by
  cases o <;> rfl

/-- The fields of a sheet report behind the ticket's body, less the count of the kept bytes. -/
def reportFields (unit : Nat) (e : Entry) : List Byte :=
  [byte unit, codeOr0 Outcome.code e.outcome, codeOr0 VoidReason.code e.voidReason, codeOr0 Dest.code e.destination,
    codeOr0 PunchResult.code e.punchResult, codeOr0 SkipReason.code e.punchSkip, codeOr0 DrillResult.code e.drillResult,
    codeOr0 SkipReason.code e.drillSkip, byte e.faultedPins.length] ++ e.faultedPins.map byte ++
  [byte e.faultedSpindles.length] ++ e.faultedSpindles.map fun i => byte i.toNat

theorem report_eq (unit : Nat) (e : Entry) :
    let kept := e.ticket.body.take (250 - (11 + e.faultedPins.length + e.faultedSpindles.length))
    e.report unit = { e.ticket with kind := 2, body := kept ++ reportFields unit e ++ [byte kept.length] } := by
  have hfields : [byte unit, codeOr0 Outcome.code e.outcome, codeOr0 VoidReason.code e.voidReason,
      codeOr0 Dest.code e.destination, codeOr0 PunchResult.code e.punchResult, codeOr0 SkipReason.code e.punchSkip,
      codeOr0 DrillResult.code e.drillResult, codeOr0 SkipReason.code e.drillSkip] ++
      counted (fun n => [byte n]) e.faultedPins ++ counted (fun i => [byte i.toNat]) e.faultedSpindles =
      reportFields unit e := by
    simp [counted, flatMap_single, reportFields]
  have hlength : (reportFields unit e).length + 1 = 11 + e.faultedPins.length + e.faultedSpindles.length := by
    simp [reportFields]
    omega
  unfold Entry.report withReport
  dsimp only
  rw [hfields, hlength]
  rfl

namespace Part

/-! ### The arbiter (R181) -/

theorem beginTransmit_busy {p : Part} (h : p.port.downHold = true ∨ p.port.sending ≠ none) : p.beginTransmit = p := by
  unfold beginTransmit
  rw [if_neg]
  rintro hb
  rw [Bool.and_eq_true, Option.isNone_iff_eq_none, Bool.not_eq_true'] at hb
  rcases h with h | h
  · simp [hb.2] at h
  · exact h hb.1

section
variable {p : Part} (hh : p.port.downHold = false) (hs : p.port.sending = none)
include hh hs

theorem beginTransmit_notice {t : Ticket} (ha : p.arbiter = some ⟨.haltNotice, t⟩) : p.beginTransmit =
    { p with port := { p.port with sending := some ⟨.haltNotice, t⟩ }, sup := { p.sup with notice := none } } := by
  unfold beginTransmit
  rw [if_pos (by simp [hh, hs]), ha]
  rfl

theorem beginTransmit_other {x : Sending} (ha : p.arbiter = some x) (hx : x.owner ≠ .haltNotice) :
    p.beginTransmit = { p with port := { p.port with sending := some x } } := by
  unfold beginTransmit
  rw [if_pos (by simp [hh, hs]), ha]
  exact if_neg hx

end

theorem headReport_silent {p : Part} (h : ∀ e es, p.tracker.queue = e :: es → e.stage ≠ .done) :
    p.headReport = none := by
  unfold headReport
  split
  · next e es hq => exact if_neg (h e es hq)
  · rfl

/-! ### The END of a sent ticket (R172) -/

/-- Without a record of the number, a change of that record changes nothing. -/
theorem updateBook_absent {n : Nat} {p : Part} (h : p.book? n = none) (f : Book → Book) : p.updateBook n f = p := by
  have hmap : p.books.records.map (fun b => if b.number = n then f b else b) = p.books.records := by
    have hid : p.books.records.map (fun b => if b.number = n then f b else b) = p.books.records.map id := by
      refine List.map_congr_left fun b hb => if_neg ?_
      simpa using List.find?_eq_none.1 h b hb
    rw [hid, List.map_id]
  unfold updateBook onBooks
  dsimp only
  rw [hmap]

theorem freeHead_only {p : Part} {e : Entry} {es : List Entry} (hq : p.tracker.queue = e :: es)
    (h : e.voidReason ≠ none ∨ p.book? e.book = none) :
    p.freeHead = { p with tracker := { p.tracker with queue := es } } := by
  simp only [freeHead, hq]
  rcases h with h | h
  · have hv : e.isVoid = true := Option.isSome_iff_ne_none.2 h
    rw [if_pos hv]
    rfl
  · split
    · rfl
    · have hnone : (p.onTracker fun t => { t with queue := es }).book? e.book = none := h
      rw [updateBook_absent hnone]
      unfold endTest
      rw [hnone]
      rfl

theorem freeHead_counts {p : Part} {e : Entry} {es : List Entry} {b : Book} (hq : p.tracker.queue = e :: es)
    (hv : e.voidReason = none) (hb : p.book? e.book = some b) :
    p.freeHead = { p with tracker := { p.tracker with queue := es }, books := p.freeHead.books } ∧
    RecordChanged p p.freeHead e.book (leaveQueue b) := by
  have he : p.freeHead = ((p.onTracker fun t => { t with queue := es }).updateBook e.book leaveQueue).endTest e.book := by
    have hvoid : ¬e.isVoid = true := by simp [Entry.isVoid, hv]
    simp only [freeHead, hq]
    rw [if_neg hvoid]
    rfl
  refine ⟨?_, ?_⟩
  · rw [he, endTest_blocks]
    rfl
  · rw [he]
    exact endTest_changed hb (fun _ => rfl) rfl

theorem ticketLeaves_notice {p : Part} {t : Ticket} (h : p.port.sending = some ⟨.haltNotice, t⟩) :
    p.ticketLeaves = p.onPort fun y => { y with sending := none } := by
  simp only [ticketLeaves, h]

theorem ticketLeaves_report {p : Part} {t : Ticket} (h : p.port.sending = some ⟨.report, t⟩) :
    p.ticketLeaves = (p.onPort fun y => { y with sending := none }).freeHead := by
  simp only [ticketLeaves, h]

theorem ticketLeaves_bookDone {p : Part} {t : Ticket} (h : p.port.sending = some ⟨.bookDone, t⟩) :
    p.ticketLeaves = (p.onPort fun y => { y with sending := none }).freeRecord := by
  simp only [ticketLeaves, h]

theorem ticketLeaves_output {p : Part} {t : Ticket} (h : p.port.sending = some ⟨.output, t⟩) :
    p.ticketLeaves = (p.onPort fun y => { y with sending := none }).freeSlot := by
  simp only [ticketLeaves, h]

theorem freeRecord_eq {p : Part} {i : Nat} {ids : List Nat} (h : p.books.endOrder = i :: ids) : p.freeRecord =
    { p with books := ⟨p.books.records.filter fun b => b.id != i, ids,
      if p.books.records.any (fun b => b.id == i && p.books.tailBook == some b.number) then none
      else p.books.tailBook⟩ } := by
  simp only [freeRecord, onBooks, h]

end Part

/-- Settles O29: the arbiter's order; each body is the one of its table. -/
theorem transmitBeginCompletes : Obligations.TransmitBeginCompletes := by
  intro s p hp unit bit code notice report bookDone silent
  have hreport (e : Entry) : e.report p.port.unitAddress = report e := by
    rw [report_eq]
    unfold reportFields
    simp only [codeOr0_eq]
    rfl
  have hdone (b : Book) : b.doneTicket p.port.unitAddress = bookDone b := by
    unfold Book.doneTicket
    simp only [codeOr0_eq]
    rfl
  have hnotice (n : HaltNotice) : n.toTicket p.port.unitAddress = notice n := by
    unfold HaltNotice.toTicket
    rw [be2_headSequence, be2_resumeSequence]
    rfl
  refine ⟨fun h => external_gives hp (Part.beginTransmit_busy h), fun hh hs => ⟨fun n hn => external_gives hp ?_,
    fun e es hn hq hd => external_gives hp ?_, fun i b ids hn hq ho hb => external_gives hp ?_,
    fun it its hn hq ho hl he => external_gives hp ?_⟩⟩
  · refine Part.beginTransmit_notice hh hs ?_
    simp only [Part.arbiter, hn, hnotice]
  · refine Part.beginTransmit_other hh hs (x := ⟨.report, report e⟩) ?_ (by simp)
    simp only [Part.arbiter, Part.headReport, hn, hq, hd, if_true, hreport]
  · refine Part.beginTransmit_other hh hs (x := ⟨.bookDone, bookDone b⟩) ?_ (by simp)
    simp only [Part.arbiter, Part.headReport_silent hq, Part.nextNotice, hn, ho, List.head?_cons, Option.bind_some, hb,
      Option.map_some, hdone]
  · refine Part.beginTransmit_other hh hs (x := ⟨.output, it.ticket⟩) ?_ (by simp)
    simp only [Part.arbiter, Part.headReport_silent hq, Part.nextNotice, Part.outHead, hn, ho, List.head?_nil,
      Option.bind_none, Option.map_none, hl, he, if_true]

/-- Settles O30: one case for each owner. -/
theorem ticketSentCompletes : Obligations.TicketSentCompletes := by
  intro s p t hp sent port becomes
  refine ⟨fun h => external_gives hp (Part.ticketLeaves_notice h), fun h => external_gives hp (Part.ticketLeaves_output h),
    fun e es h hq => ?_, fun i ids h ho => ?_⟩
  · intro freed
    have hleaves : p.ticketLeaves = ({ p with port := port } : Part).freeHead := Part.ticketLeaves_report h
    refine ⟨fun hv => external_gives hp ?_, fun b hv hb => ?_⟩
    · rw [hleaves, Part.freeHead_only (p := { p with port := port }) hq hv]
    · intro c ends
      obtain ⟨hframe, hfound, hothers, htail, hend⟩ := Part.freeHead_counts (p := { p with port := port }) hq hv hb
      exact ⟨_, external_gives hp hleaves, hframe, htail, hothers, hfound, hend⟩
  · intro kept
    have hleaves : p.ticketLeaves = ({ p with port := port } : Part).freeRecord := Part.ticketLeaves_bookDone h
    have heq := hleaves.trans (Part.freeRecord_eq (p := { p with port := port }) ho)
    refine ⟨fun ⟨b, hb, hi, ht⟩ => external_gives hp ?_, fun hno => external_gives hp ?_⟩
    · rw [heq, if_pos]
      rw [List.any_eq_true]
      exact ⟨b, hb, by simp [hi, ht]⟩
    · rw [heq, if_neg]
      rw [List.any_eq_true]
      rintro ⟨b, hb, hx⟩
      rw [Bool.and_eq_true, beq_iff_eq, beq_iff_eq] at hx
      exact hno b hb hx.1 hx.2

end Sys2Proof.Machine
end

section
/-! SUPPORT. Sheet sensors: what binds no sheet halts the line; the entry sensor and the two register sensors. -/

namespace Sys2Proof.Machine

namespace Part

/-! ### A raised cause outside HALT -/

theorem raise_halts {p : Part} (h : p.sup.line ≠ .halt) (c : Cause) (w : Option Nat) :
    (p.raise c w).sup.line = .halt ∧
      ∃ r, (p.raise c w).sup.haltRecord = some r ∧ r.cause = c ∧ r.bookConcerned = w := by
  rw [raise_outside_halt h, enterHalt_sup]
  exact ⟨rfl, _, rfl, rfl, rfl⟩

theorem raise_cause {p : Part} (h : p.sup.line ≠ .halt) (c : Cause) (w : Option Nat) :
    (p.raise c w).sup.haltRecord.map HaltRecord.cause = some c := by
  obtain ⟨-, r, hr, hc, -⟩ := raise_halts h c w
  rw [hr, Option.map_some, hc]

/-! ### The line-state test (R9) -/

theorem senseMoving_run {p : Part} (h : p.sup.line = .run) (s : Sensor) (bind : Part → Part) :
    p.senseMoving s bind = bind p := by
  simp only [senseMoving, h]

theorem senseMoving_standing {p : Part} (h : p.sup.line = .idle ∨ p.sup.line = .hold) (s : Sensor) (bind : Part → Part) :
    p.senseMoving s bind = p.raise (.unexpectedMotion s) none := by
  rcases h with h | h <;> simp only [senseMoving, h]

theorem senseMoving_halt {p : Part} (h : p.sup.line = .halt) (s : Sensor) (bind : Part → Part) :
    p.senseMoving s bind = p := by
  simp only [senseMoving, h]

/-! ### Binding (R10 to R13) -/

theorem bindEntry_orphan {p : Part} (h : p.oldest .waiting = none) (double : Bool) :
    p.bindEntry double = p.raise .orphanSheet none := by
  simp only [bindEntry, h]

theorem bindStation_unexpected {p : Part} {source target : Stage}
    (h : p.hasStage target = true ∨ p.hasStage source = false) (s : Sensor) (hand : Part → Part) :
    p.bindStation s source target hand = p.raise (.unexpectedSheet s none) none := by
  unfold bindStation
  rw [if_pos]
  rcases h with h | h <;> simp [h]

theorem hasStage_eq_true {p : Part} {st : Stage} {e : Entry} (he : e ∈ p.tracker.queue) (hs : e.stage = st) :
    p.hasStage st = true := by
  unfold hasStage
  rw [List.any_eq_true]
  exact ⟨e, he, by simp [hs]⟩

theorem hasStage_eq_false {p : Part} {st : Stage} (h : ∀ e ∈ p.tracker.queue, e.stage ≠ st) : p.hasStage st = false := by
  unfold hasStage
  rw [List.any_eq_false]
  simpa using h

/-- The part with the entry between `es` and `fs` at a station. -/
def stands (es fs : List Entry) (e : Entry) (st : Stage) (p : Part) : Part :=
  { p with tracker := { p.tracker with queue := es ++ { e with stage := st, deadline := none } :: fs } }

/-- The sheet that a station sensor binds is handed over (R11 to R13). -/
theorem bindStation_binds {p : Part} {es fs : List Entry} {e : Entry} {source target : Stage}
    (hq : p.tracker.queue = es ++ e :: fs) (hes : ∀ x ∈ es, x.stage ≠ source ∧ x.stage ≠ target)
    (hfs : ∀ x ∈ fs, x.stage ≠ target) (he : e.stage = source) (hne : source ≠ target) (s : Sensor)
    (hand : Part → Part) : p.bindStation s source target hand = hand (p.stands es fs e target) := by
  have htarget : p.hasStage target = false := hasStage_eq_false fun x hx => by
    rw [hq, List.mem_append, List.mem_cons] at hx
    rcases hx with hx | rfl | hx
    · exact (hes x hx).2
    · rwa [he]
    · exact hfs x hx
  have hsource : p.hasStage source = true := hasStage_eq_true (e := e) (by simp [hq]) he
  unfold bindStation
  rw [if_neg (by simp [htarget, hsource]),
    modifyOldest_append _ hq (fun x hx => (hes x hx).1) he]
  rfl

/-! ### A landing that cannot be bound (R14) -/

theorem sheetLands_halt {p : Part} (h : p.sup.line = .halt) (l : LandingSensor) : p.sheetLands l = p := by
  unfold sheetLands
  rw [if_pos h]

theorem sheetLands_none {p : Part} (h : p.sup.line ≠ .halt) (ho : p.oldest .dropping = none) (l : LandingSensor) :
    p.sheetLands l = p.raise (.unexpectedSheet (landingSensor l) none) none := by
  simp only [sheetLands, if_neg h, ho]

theorem sheetLands_misrouted {p : Part} {e : Entry} {l : LandingSensor} (h : p.sup.line ≠ .halt)
    (ho : p.oldest .dropping = some e) (hd : e.destination ≠ some (landingDest l)) :
    p.sheetLands l =
      p.raise (.unexpectedSheet (landingSensor l) e.destination) (if e.isVoid then none else some e.book) := by
  simp only [sheetLands, if_neg h, ho, if_neg hd]

theorem sheetLands_bound {p : Part} {e : Entry} {l : LandingSensor} (h : p.sup.line ≠ .halt)
    (ho : p.oldest .dropping = some e) (hd : e.destination = some (landingDest l)) :
    p.sheetLands l = (p.finishLanding l e).follow := by
  simp only [sheetLands, if_neg h, ho, if_pos hd]

/-! ### A busy drill station (R87) -/

theorem drillBusy_iff (p : Part) : p.drillBusy = true ↔ ∃ i, (p.spindle i).state ≠ .idle := by
  unfold drillBusy Quad.toList
  simp only [List.any_cons, List.any_nil, Bool.or_false, Bool.or_eq_true, bne_iff_ne]
  constructor
  · rintro (h | h | h | h)
    exacts [⟨.i1, h⟩, ⟨.i2, h⟩, ⟨.i3, h⟩, ⟨.i4, h⟩]
  · rintro ⟨i, h⟩
    cases i
    exacts [.inl h, .inr (.inl h), .inr (.inr (.inl h)), .inr (.inr (.inr h))]

theorem handToDrill_busy {p : Part} (h : ∃ i, (p.spindle i).state ≠ .idle) :
    p.handToDrill = p.onDrill fun d => { d with pendingSetup := true } := by
  unfold handToDrill
  rw [if_pos ((drillBusy_iff p).2 h)]

theorem handToDrill_free {p : Part} (h : ∀ i, (p.spindle i).state = .idle) : p.handToDrill = p.drillSetup := by
  unfold handToDrill
  rw [if_neg]
  rw [drillBusy_iff]
  rintro ⟨i, hi⟩
  exact hi (h i)

end Part

/-- Settles O31: one case for each sensor and line state. -/
theorem unboundSensorsHalt : Obligations.UnboundSensorsHalt := by
  intro s p hp halts
  have halted {c : Instr} {f : Part → Part} {w : Cause} {book : Option Nat} (hline : p.sup.line ≠ .halt)
      (hc : exec c s = external f s) (hf : f p = p.raise w book) : halts c w book :=
    ⟨hc.trans (external_gives hp hf), Part.raise_halts hline w book⟩
  refine ⟨fun hl => ?_, fun hl => ?_, fun hl l x d hx => ?_, fun hl c hc => ?_⟩
  · have hline : p.sup.line ≠ .halt := by rcases hl with h | h <;> simp [h]
    exact ⟨fun d => halted hline rfl (Part.senseMoving_standing hl _ _),
      halted hline rfl (Part.senseMoving_standing hl _ _), halted hline rfl (Part.senseMoving_standing hl _ _),
      halted hline rfl (Part.senseMoving_standing hl _ _)⟩
  · have hline : p.sup.line ≠ .halt := by simp [hl]
    refine ⟨fun d ho => halted hline rfl ((Part.senseMoving_run hl _ _).trans (Part.bindEntry_orphan ho d)),
      fun h => halted hline rfl ((Part.senseMoving_run hl _ _).trans (Part.bindStation_unexpected h _ _)),
      fun h => halted hline rfl ((Part.senseMoving_run hl _ _).trans (Part.bindStation_unexpected h _ _)),
      fun h => halted hline rfl ((Part.senseMoving_run hl _ _).trans (Part.bindStation_unexpected h _ _))⟩
  · have hsd : x = Part.landingSensor l ∧ d = Part.landingDest l := by
      simp only [List.mem_cons, Prod.mk.injEq, List.not_mem_nil, or_false] at hx
      rcases hx with ⟨rfl, rfl, rfl⟩ | ⟨rfl, rfl, rfl⟩ | ⟨rfl, rfl, rfl⟩ <;> exact ⟨rfl, rfl⟩
    obtain ⟨rfl, rfl⟩ := hsd
    exact ⟨fun ho => halted hl rfl (Part.sheetLands_none hl ho l),
      fun e ho hd => halted hl rfl (Part.sheetLands_misrouted hl ho hd)⟩
  · simp only [List.mem_cons, List.not_mem_nil, or_false] at hc
    rcases hc with rfl | rfl | rfl | rfl | rfl | rfl | rfl | rfl
    iterate 5 exact external_gives hp (Part.senseMoving_halt hl _ _)
    all_goals exact external_gives hp (Part.sheetLands_halt hl _)

/-- Settles O32. -/
theorem entrySensorCompletes : Obligations.EntrySensorCompletes := by
  intro s p es fs e hp hl hq hes he d moved
  have ho := Part.oldest_append hq hes he
  have hmove := Part.modifyOldest_append (fun e : Entry =>
    { e with stage := .entered, deadline := some ⟨.position, p.posDeadline p.timebase.settings.leadIn⟩ }) hq hes he
  have hbind (double : Bool) : p.entrySensor double =
      if double then moved.raise (.doubleSheet e.sequence) (if e.isVoid then none else some e.book) else moved := by
    refine (Part.senseMoving_run hl _ _).trans ?_
    simp only [Part.bindEntry, ho, hmove]
    rfl
  have hline : moved.sup.line ≠ .halt := by simp [moved, hl]
  refine ⟨external_gives hp (hbind false), ?_⟩
  exact ⟨external_gives hp (hbind true), (Part.raise_halts hline _ _).1, Part.raise_cause hline _ _⟩

/-- Settles O33: the sheet stands at the punch; the setups are those of `treatmentResolves`. -/
theorem punchRegisterCompletes : Obligations.PunchRegisterCompletes := by
  intro s p es fs e hp hl hq hes hfs he d t bad standing released
  have hreg : p.punchRegister = standing.handToPunch :=
    (Part.senseMoving_run hl _ _).trans (Part.bindStation_binds hq hes hfs he (by decide) _ _)
  refine ⟨fun hs => external_gives hp ?_, fun hs => ?_⟩
  · rw [hreg]
    exact if_neg hs
  · have hsetup : p.punchRegister = standing.strikeSetup := hreg.trans (if_pos hs)
    obtain ⟨-, -, -, -, hresolve⟩ := treatmentResolves
    obtain ⟨-, hstrike, -⟩ := hresolve standing { e with stage := .atPunch, deadline := none } es fs rfl
    obtain ⟨⟨hvoid, hspoiled⟩, hnone, hoff, hchecks⟩ := hstrike (fun x hx => (hes x hx).2) rfl
    refine ⟨external_gives hp hsetup, fun hv => external_gives hp (hsetup.trans (hvoid hv)),
      fun hv hb => external_gives hp (hsetup.trans (hspoiled hv hb)), fun hv hb => ?_⟩
    refine ⟨fun hr => external_gives hp (hsetup.trans (hnone ⟨hv, hb⟩ hr)),
      fun hr hn => external_gives hp (hsetup.trans (hoff ⟨hv, hb⟩ hr hn)), fun hr hn hd => ?_, fun hr hn hd hbad => ?_,
      fun hr hn hd hbad => ?_⟩
    all_goals have hcheck := hsetup.trans (hchecks ⟨hv, hb⟩ hr hn)
    · exact external_gives hp (hcheck.trans (if_pos hd))
    · exact external_gives hp ((hcheck.trans (if_neg (by rw [Bool.not_eq_false]; exact hd))).trans (if_pos hbad))
    · exact external_gives hp ((hcheck.trans (if_neg (by rw [Bool.not_eq_false]; exact hd))).trans
        (if_neg (not_not.2 hbad)))

/-- Settles O34: the sheet stands at the drill; the setups are those of `treatmentResolves`. -/
theorem drillRegisterCompletes : Obligations.DrillRegisterCompletes := by
  intro s p es fs e hp hl hq hes hfs he d due standing left becomes number profile passes copied through l
  have hreg : p.drillRegister = standing.handToDrill :=
    (Part.senseMoving_run hl _ _).trans (Part.bindStation_binds hq hes hfs he (by decide) _ _)
  refine ⟨fun hs => external_gives hp (hreg.trans (Part.handToDrill_busy hs)), fun hs => ?_⟩
  have hsetup : p.drillRegister = standing.drillSetup := hreg.trans (Part.handToDrill_free hs)
  obtain ⟨-, -, -, -, hresolve⟩ := treatmentResolves
  obtain ⟨-, -, hdrill⟩ := hresolve standing { e with stage := .atDrill, deadline := none } es fs rfl
  obtain ⟨⟨hvoid, hspoiled⟩, hnone, hoff, hcycle⟩ := hdrill (fun x hx => (hes x hx).2) rfl
  refine ⟨external_gives hp hsetup, fun hv => external_gives hp (hsetup.trans (hvoid hv)),
    fun hv hb => external_gives hp (hsetup.trans (hspoiled hv hb)), fun hv hb => ?_⟩
  refine ⟨fun hr => external_gives hp (hsetup.trans (hnone ⟨hv, hb⟩ hr)),
    fun hr hn => external_gives hp (hsetup.trans (hoff ⟨hv, hb⟩ hr hn)), fun hr hn hpasses => ?_⟩
  obtain ⟨hothers, hruns, hends⟩ := hcycle ⟨hv, hb⟩ hr hn hpasses hs
  refine ⟨fun hwork => ?_, fun hthrough => ?_⟩
  · obtain ⟨hstarts, hframe⟩ := hruns hwork
    exact ⟨_, external_gives hp hsetup, hframe, hothers, hstarts⟩
  · obtain ⟨hidle, hframe⟩ := hends hthrough
    exact ⟨_, external_gives hp hsetup, hframe, hothers, hidle⟩

end Sys2Proof.Machine
end

section
/-! SUPPORT. The exit sensor with its gate decision, and a landing. -/

namespace Sys2Proof.Machine

namespace Part

/-! ### A drop in RUN (R16, R17) -/

/-- In RUN the withdrawal of the pocket-wait condition leaves the line in RUN. -/
theorem withdrawWait_run {p : Part} (h : p.sup.line = .run) :
    p.withdrawWait = { p with sup := { p.sup with pocketWait := false } } := by
  have hsup : ∀ u : Supervisor, u.line = .run →
      (if u.pocketWait then { u with pocketWait := false, line := if u.line = .hold then .run else u.line } else u) =
        { u with pocketWait := false } := by
    rintro ⟨line, wait, _, _, _, _, _, _, _, _, _, _, _, _⟩ (rfl : line = .run)
    cases wait <;> rfl
  unfold withdrawWait onSup
  dsimp only
  rw [hsup _ h]

theorem dropTo_append {p : Part} {es fs : List Entry} {e : Entry} (hq : p.tracker.queue = es ++ e :: fs)
    (hes : ∀ x ∈ es, x.stage ≠ .atGate) (he : e.stage = .atGate) (hl : p.sup.line = .run) (d : Dest) :
    p.dropTo d = { p with
      tracker := { p.tracker with
        queue := es ++ { e with stage := .dropping, destination := some d
                                deadline := some ⟨.time, p.msDeadline p.timebase.settings.drop⟩ } :: fs
        gate := d }
      sup := { p.sup with pocketWait := false } } := by
  unfold dropTo
  rw [modifyOldest_append _ hq hes he]
  exact withdrawWait_run hl

/-! ### The gate decision, case by case -/

section
variable {p : Part} {e : Entry} (ho : p.oldest .atGate = some e)
include ho

theorem gateDecide_diverts (h : e.isVoid = true ∨ p.bookSpoiled e.book = true) : p.gateDecide = p.dropTo .reject := by
  unfold gateDecide
  rw [ho]
  dsimp only
  cases hv : e.isVoid with
  | true => rfl
  | false =>
    cases hb : p.book? e.book with
    | none => rfl
    | some b =>
      have hs : b.state = .spoiled := by simpa [hv, bookSpoiled, hb] using h
      exact if_pos hs

variable {b : Book} (hv : e.isVoid = false) (hb : p.book? e.book = some b) (hs : b.state ≠ .spoiled)
include hv hb hs

theorem gateDecide_ownFault (hf : e.ownFault = true) :
    p.gateDecide = (p.spoil e.book .sheetFault false).dropTo .reject := by
  simp only [gateDecide, ho, hv, hb, if_neg hs, if_pos hf]

variable (hf : e.ownFault = false)
include hf

theorem gateDecide_holder {k : PocketId} (hk : b.pocket = some k) : p.gateDecide = p.dropTo k.dest := by
  simp only [gateDecide, ho, hv, hb, if_neg hs, hf, Bool.false_eq_true, if_false, hk]

theorem gateDecide_grants {k : PocketId} (hk : b.pocket = none) (hfree : p.freePocket = some k) :
    p.gateDecide = (p.grant k e.book).dropTo k.dest := by
  simp only [gateDecide, ho, hv, hb, if_neg hs, hf, Bool.false_eq_true, if_false, hk, hfree]

theorem gateDecide_waits (hk : b.pocket = none) (hfree : p.freePocket = none) : p.gateDecide = p.raiseWait := by
  simp only [gateDecide, ho, hv, hb, if_neg hs, hf, Bool.false_eq_true, if_false, hk, hfree]

end

theorem grant_pocket (k j : PocketId) (n : Nat) (p : Part) :
    (p.grant k n).pocket j = if j = k then ⟨.gathering, some n⟩ else p.pocket j := by
  unfold grant
  rw [pocket_updateBook, pocket_setPocket]

/-! ### A book becomes READY (R38, R111) -/

/-- A count is staged unless one is staged already (R111). -/
def stageCount (b : Book) (c : Closer) : Closer :=
  { c with staged := some (c.staged.getD ⟨b.loopCount, b.number, b.id⟩) }

/-- The pocket of a book goes FULL and joins the request list. -/
def requestPocket (k : PocketId) (n : Nat) (p : Part) : Part :=
  ((p.updateBook n (Book.enter .ready)).movePocket k .full).joinRequests k

theorem requestPocket_closer (k : PocketId) (n : Nat) (p : Part) : (p.requestPocket k n).closer = { p.closer with
    pocketA := (p.requestPocket k n).closer.pocketA, pocketB := (p.requestPocket k n).closer.pocketB
    requests := p.closer.requests ++ [k] } := by cases k <;> rfl

theorem makeReady_of_pocket {n : Nat} {p : Part} {b : Book} {k : PocketId} (hb : p.book? n = some b)
    (hk : b.pocket = some k) : p.makeReady n =
      if p.closer.state = .idle ∧ p.closer.requests = [] then p.requestPocket k n
      else (p.requestPocket k n).onCloser (stageCount b) := by
  have hfirst : (p.requestPocket k n).closer.state = .idle ∧ (p.requestPocket k n).closer.requests.length = 1 ↔
      p.closer.state = .idle ∧ p.closer.requests = [] := by
    rw [requestPocket_closer]
    dsimp only
    rw [List.length_append, List.length_singleton, Nat.add_eq_right, List.length_eq_zero_iff]
  have hstage : ∀ c : Closer, (match c.staged with
      | none => { c with staged := some ⟨b.loopCount, b.number, b.id⟩ }
      | some _ => c) = stageCount b c := by
    rintro ⟨_, _, _, _, _, _, _, staged, _, _, _, _⟩
    cases staged <;> rfl
  unfold makeReady
  rw [hb]
  dsimp only
  rw [hk]
  refine if_congr hfirst rfl ?_
  exact congrArg (fun f => (p.requestPocket k n).onCloser f) (funext hstage)

theorem makeReady_closer_eq {n : Nat} {p : Part} {b : Book} {k : PocketId} (hb : p.book? n = some b)
    (hk : b.pocket = some k) : (p.makeReady n).closer = { p.closer with
      pocketA := (p.makeReady n).closer.pocketA, pocketB := (p.makeReady n).closer.pocketB
      requests := p.closer.requests ++ [k]
      staged := if p.closer.state = .idle ∧ p.closer.requests = [] then p.closer.staged
        else some (p.closer.staged.getD ⟨b.loopCount, b.number, b.id⟩) } := by
  rw [makeReady_of_pocket hb hk]
  by_cases hc : p.closer.state = .idle ∧ p.closer.requests = []
  · rw [if_pos hc, if_pos hc]
    exact requestPocket_closer k n p
  · rw [if_neg hc, if_neg hc]
    show stageCount b (p.requestPocket k n).closer = _
    rw [requestPocket_closer]
    rfl

/-! ### A landing (R14, R20, R36) -/

theorem finishLanding_void {l : LandingSensor} {e : Entry} (hv : e.isVoid = true) (p : Part) : p.finishLanding l e =
    p.modifyOldest .dropping (Entry.finish (if l = .reject then .diverted else .gathered)) := by
  rw [finishLanding_eq, countDone, if_pos hv]

theorem landed_books (l : LandingSensor) (e : Entry) (p : Part) :
    (p.landed l e).books = (p.updateBook e.book (countLanded l)).books := by
  simp [landed, updateBook]

theorem landed_book? {l : LandingSensor} {e : Entry} (p : Part) (m : Nat) : (p.landed l e).book? m =
    if m = e.book then (p.book? m).map (countLanded l) else p.book? m := by
  rw [book?_congr (landed_books l e p), book?_updateBook _ _ _ fun b => (countLanded_fields l b).1]

theorem landed_closer (l : LandingSensor) (e : Entry) (p : Part) : (p.landed l e).closer = p.closer := by
  simp [landed]

theorem makeReady_book? {n : Nat} {p : Part} {b : Book} (hb : p.book? n = some b) (m : Nat) :
    (p.makeReady n).book? m = if m = n then some (b.enter .ready) else p.book? m := by
  rw [book?_congr (makeReady_books hb), book?_updateBook n m (Book.enter .ready) fun _ => rfl]
  by_cases h : m = n
  · rw [if_pos h, if_pos h, h, hb]
    rfl
  · rw [if_neg h, if_neg h]

/-- Without a record of the number, a landing changes no book and nothing at the closer. -/
theorem finishLanding_no_record {l : LandingSensor} {e : Entry} {p : Part} (hv : e.isVoid = false)
    (hb : p.book? e.book = none) : (p.finishLanding l e).books = p.books ∧ (p.finishLanding l e).closer = p.closer := by
  have hbook : (p.landed l e).book? e.book = none := by rw [landed_book?, if_pos rfl, hb]; rfl
  have hready : (p.landed l e).readyTest e.book = p.landed l e := by
    unfold readyTest
    rw [hbook]
  have hland : p.finishLanding l e = p.landed l e := by
    rw [finishLanding_landed l e p hv, hready, ite_self]
  rw [hland, landed_books, landed_closer, updateBook_absent hb]
  exact ⟨rfl, rfl⟩

/-- The leaf completes its book (R36). -/
def Completes (l : LandingSensor) (b : Book) : Prop := l ≠ .reject ∧ b.state = .filled ∧ b.gathered + 1 = b.expected

theorem finishLanding_counts {l : LandingSensor} {e : Entry} {p : Part} {b : Book} (hv : e.isVoid = false)
    (hb : p.book? e.book = some b) (h : ¬Completes l b) : p.finishLanding l e = p.landed l e := by
  rw [finishLanding_landed l e p hv]
  split
  · rfl
  · next hl =>
    have hbook : (p.landed l e).book? e.book = some (countLanded l b) := by rw [landed_book?, if_pos rfl, hb]; rfl
    unfold readyTest
    rw [hbook]
    dsimp only
    rw [if_neg]
    rintro ⟨hs, hg⟩
    rw [countLanded, if_neg hl] at hs hg
    exact h ⟨hl, hs, hg⟩

theorem finishLanding_completes {l : LandingSensor} {e : Entry} {p : Part} {b : Book} (hv : e.isVoid = false)
    (hb : p.book? e.book = some b) (h : Completes l b) : p.finishLanding l e = (p.landed l e).makeReady e.book := by
  obtain ⟨hl, hs, hg⟩ := h
  have hbook : (p.landed l e).book? e.book = some (countLanded l b) := by rw [landed_book?, if_pos rfl, hb]; rfl
  rw [finishLanding_landed l e p hv, if_neg hl]
  unfold readyTest
  rw [hbook]
  dsimp only
  rw [if_pos]
  rw [countLanded, if_neg hl]
  exact ⟨hs, hg⟩

theorem finishLanding_books_frame (l : LandingSensor) (e : Entry) (p : Part) : (p.finishLanding l e).books =
    { p.books with records := (p.finishLanding l e).books.records } := by
  cases hv : e.isVoid with
  | true => simp [finishLanding_void hv]
  | false =>
    cases hb : p.book? e.book with
    | none => rw [(finishLanding_no_record hv hb).1]
    | some b =>
      by_cases hf : Completes l b
      · have hbook : (p.landed l e).book? e.book = some (countLanded l b) := by rw [landed_book?, if_pos rfl, hb]; rfl
        rw [finishLanding_completes hv hb hf, makeReady_books hbook]
        simp [updateBook, landed_books]
      · rw [finishLanding_counts hv hb hf, landed_books]
        rfl

/-- A part that agrees with another in seven blocks. -/
theorem eq_of_blocks {p q : Part} (h1 : q.port = p.port) (h2 : q.cmd = p.cmd) (h3 : q.punch = p.punch)
    (h4 : q.drill = p.drill) (h5 : q.timebase = p.timebase) (h6 : q.stations = p.stations) (h7 : q.sup = p.sup) :
    q = { p with tracker := q.tracker, patterns := q.patterns, books := q.books, closer := q.closer } := by
  rw [← h1, ← h2, ← h3, ← h4, ← h5, ← h6, ← h7]

end Part

/-- Settles O35: the gate decision's cases, for the sheet that has just come to the gate. -/
theorem exitSensorCompletes : Obligations.ExitSensorCompletes := by
  intro s p es fs e hp hl hq hes hfs he d drops
  have hstand : p.exitSensor = (p.stands es fs e .atGate).gateDecide.follow :=
    (Part.senseMoving_run hl _ _).trans (Part.bindStation_binds hq hes hfs he (by decide) _ _)
  have hes' : ∀ x ∈ es, x.stage ≠ .atGate := fun x hx => (hes x hx).2
  have ho : (p.stands es fs e .atGate).oldest .atGate = some { e with stage := .atGate, deadline := none } :=
    Part.oldest_append rfl hes' rfl
  have hdrop (q : Part) (hqq : q.tracker = (p.stands es fs e .atGate).tracker) (hql : q.sup.line = .run) (x : Dest) :=
    Part.dropTo_append (p := q) (es := es) (fs := fs) (e := { e with stage := .atGate, deadline := none })
      (by rw [hqq]; rfl) hes' rfl hql x
  have hself (x : Dest) : (p.stands es fs e .atGate).dropTo x = drops x := hdrop _ rfl hl x
  refine ⟨fun h => external_gives hp ?_, fun b hv hb hs hf => ⟨fun k hk => external_gives hp ?_,
    fun k hk hfree => ?_, fun hk hfree => external_gives hp ?_⟩, fun b hv hb hs hf => ?_⟩
  · rw [hstand, Part.gateDecide_diverts ho h, hself]
  · rw [hstand, Part.gateDecide_holder ho hv hb hs hf hk, hself]
  · have hgrant : ((p.stands es fs e .atGate).grant k e.book).dropTo k.dest =
        { drops k.dest with
          books := (p.grant k e.book).books, closer := (p.grant k e.book).closer } := by
      have hsup : ((p.stands es fs e .atGate).grant k e.book).sup = p.sup := by cases k <;> rfl
      rw [hdrop _ (by cases k <;> rfl) (by rw [hsup]; exact hl)]
      cases k <;> rfl
    have hexec := external_gives (s := s) hp
      (hstand.trans (congrArg Part.follow (Part.gateDecide_grants ho hv hb hs hf hk hfree)))
    rw [hgrant] at hexec
    have hpocket (j : PocketId) := Part.grant_pocket k j e.book p
    refine ⟨_, hexec, ?_, fun j hj => ?_, ?_, rfl⟩
    · exact (Part.pocket_congr (p := p.grant k e.book) rfl rfl k).trans ((hpocket k).trans (if_pos rfl))
    · exact (Part.pocket_congr (p := p.grant k e.book) rfl rfl j).trans ((hpocket j).trans (if_neg hj))
    · cases k <;> rfl
  · rw [hstand, Part.gateDecide_waits ho hv hb hs hf hk hfree]
    have hrun : (p.stands es fs e .atGate).sup.line = .run := hl
    simp only [Part.raiseWait, Part.onSup, if_pos hrun]
    rfl
  · intro q
    have hblocks : q = { p with books := q.books, closer := q.closer } := Part.spoil_blocks e.book .sheetFault false p
    have hspoil : (p.stands es fs e .atGate).spoil e.book .sheetFault false =
        { q with tracker := (p.stands es fs e .atGate).tracker } := by
      refine (Part.spoil_booksInto (p.stands es fs e .atGate) e.book .sheetFault false p).trans ?_
      rw [hblocks]
      rfl
    have hdropped := hdrop { q with tracker := (p.stands es fs e .atGate).tracker } rfl (by rw [hblocks]; exact hl) .reject
    refine ⟨external_gives hp ?_, hblocks, fun hb' => ?_⟩
    · rw [hstand, Part.gateDecide_ownFault ho hv hb hs hf, hspoil, hdropped]
      rw [hblocks]
      rfl
    · obtain ⟨c, hc, -, hreason, hexpected, -⟩ := Part.book?_spoil_fresh .sheetFault false hb (by tauto)
      exact ⟨c, hc, hreason, by simpa using hexpected⟩

/-- Settles O36: a VOID entry counts nowhere; another counts into its book, which may become READY. -/
theorem landingCompletes : Obligations.LandingCompletes := by
  intro s p es fs e l hp hl hq hes he hd o
  have ho := Part.oldest_append hq hes he
  obtain ⟨hport, hcmd, hpunch, hdrill, htime, hstations, hsup⟩ := Part.finishLanding_frame l e p
  refine ⟨p.finishLanding l e, external_gives hp (Part.sheetLands_bound hl ho hd),
    Part.eq_of_blocks hport hcmd hpunch hdrill htime hstations hsup, ?_, fun hv => ?_, fun hv => ⟨fun n => ?_,
    Part.finishLanding_no_record hv, fun b hb => ?_⟩⟩
  · rw [Part.finishLanding_tracker, Part.modifyOldest_append _ hq hes he]
    rfl
  · rw [Part.finishLanding_void hv]
    simp
  · refine ⟨Part.finishLanding_pattern? l e p n, ?_⟩
    by_cases hn : n < 64
    · rw [Part.finishLanding_useCount l e p hn]
      by_cases hne : n = e.pattern
      · simp [hv, hne]
      · simp [hv, hne, Ne.symm hne]
    · simp [Part.useCount, hn]
  · intro c full
    have hc : Part.countLanded l b = c := by
      unfold Part.countLanded
      by_cases hr : l = .reject <;> simp [hr, c]
    refine ⟨Part.finishLanding_books_frame l e p, fun m hm => ?_, fun hf => ?_, fun hf => ?_⟩
    · by_cases hf : Part.Completes l b
      · have hbook : (p.landed l e).book? e.book = some (Part.countLanded l b) := by
          rw [Part.landed_book?, if_pos rfl, hb]; rfl
        rw [Part.finishLanding_completes hv hb hf, Part.makeReady_book? hbook, if_neg hm, Part.landed_book?, if_neg hm]
      · rw [Part.finishLanding_counts hv hb hf, Part.landed_book?, if_neg hm]
    · rw [Part.finishLanding_counts hv hb hf, Part.landed_book?, if_pos rfl, hb, Part.landed_closer, ← hc]
      exact ⟨rfl, rfl⟩
    · have hbook : (p.landed l e).book? e.book = some (Part.countLanded l b) := by
        rw [Part.landed_book?, if_pos rfl, hb]; rfl
      rw [Part.finishLanding_completes hv hb hf, Part.makeReady_book? hbook, if_pos rfl, hc]
      refine ⟨rfl, fun k hk => ?_⟩
      have hck : c.pocket = some k := hk
      rw [hc] at hbook
      have hpocket (j : PocketId) := Part.makeReady_pocket hbook j
      refine ⟨?_, fun j hj => ?_, ?_⟩
      · rw [hpocket, if_pos hck, Part.landed_pocket]
      · rw [hpocket, if_neg (by rw [hck]; simpa using Ne.symm hj), Part.landed_pocket]
      · have hcloser := Part.makeReady_closer_eq hbook hck
        rw [Part.landed_closer] at hcloser
        exact hcloser

end Sys2Proof.Machine
end

section
/-! SUPPORT. The report of the coil monitor and an over-current (R72, R77). -/

namespace Sys2Proof.Machine

/-- The entry of the pin health map that a coil's fault leaves (R67). -/
def faultHealth : CoilFault → PinHealth
  | .openCoil => .openCoil
  | .shortCoil => .shortCoil

namespace Part

/-! ### Marks in the pin health map -/

/-- Every coil of a report marked. -/
def markReport (l : List (Nat × CoilFault)) (p : Part) : Part := l.foldl (fun q r => q.markCoil r.1 (faultHealth r.2)) p

/-- A mark changes the map and nothing else. -/
theorem markCoil_eq (c : Nat) (v : PinHealth) (p : Part) :
    p.markCoil c v = { p with punch := { p.punch with health := (p.markCoil c v).punch.health } } := by
  unfold markCoil
  split <;> rfl

theorem markReport_eq (l : List (Nat × CoilFault)) (p : Part) :
    p.markReport l = { p with punch := { p.punch with health := (p.markReport l).punch.health } } := by
  induction l generalizing p with
  | nil => rfl
  | cons r l ih =>
    have hstep : p.markReport (r :: l) = (p.markCoil r.1 (faultHealth r.2)).markReport l := rfl
    rw [hstep, ih, markCoil_eq]

theorem markReport_unnamed {l : List (Nat × CoilFault)} {c : Nat} (hc : 1 ≤ c) (hr : ∀ r ∈ l, 1 ≤ r.1 ∧ r.1 ≤ 49)
    (hn : ∀ r ∈ l, r.1 ≠ c) (p : Part) : (p.markReport l).coilHealth c = p.coilHealth c := by
  induction l generalizing p with
  | nil => rfl
  | cons r l ih =>
    have hstep : p.markReport (r :: l) = (p.markCoil r.1 (faultHealth r.2)).markReport l := rfl
    rw [hstep, ih (fun x hx => hr x (.tail _ hx)) fun x hx => hn x (.tail _ hx),
      coilHealth_markCoil _ _ _ _ (hr r (.head _)) hc, if_neg (hn r (.head _)).symm]

/-- In an ascending report a coil is named once, and its mark is the one that stands. -/
theorem markReport_named {l : List (Nat × CoilFault)} {c : Nat} {f : CoilFault} (hl : l.Pairwise fun a b => a.1 < b.1)
    (hr : ∀ r ∈ l, 1 ≤ r.1 ∧ r.1 ≤ 49) (hc : (c, f) ∈ l) (p : Part) : (p.markReport l).coilHealth c = faultHealth f := by
  have hc1 : 1 ≤ c := (hr _ hc).1
  induction l generalizing p with
  | nil => simp at hc
  | cons r l ih =>
    obtain ⟨hhead, htail⟩ := List.pairwise_cons.1 hl
    have hstep : p.markReport (r :: l) = (p.markCoil r.1 (faultHealth r.2)).markReport l := rfl
    have hrange : ∀ x ∈ l, 1 ≤ x.1 ∧ x.1 ≤ 49 := fun x hx => hr x (.tail _ hx)
    rw [hstep]
    rcases List.mem_cons.1 hc with rfl | hm
    · rw [markReport_unnamed hc1 hrange fun x hx => (hhead x hx).ne',
        coilHealth_markCoil _ _ _ _ (hr _ (.head _)) hc1, if_pos rfl]
    · exact ih htail hrange hm _

/-! ### The report in ENGAGE (R72) -/

/-- What a report says of the coils that are engaged. -/
def heard (l : List (Nat × CoilFault)) (p : Part) : List (Nat × CoilFault) :=
  l.filter fun r => p.punch.engaged.contains r.1

theorem latchCheck_eq (l : List (Nat × CoilFault)) (p : Part) : p.latchCheck l =
    if p.punch.state = .engage then
      if p.heard l = [] then (p.markReport (p.heard l)).onPunch fun x =>
        { x with state := .strike, deadline := some (p.msDeadline x.ramWindow) }
      else (p.markReport (p.heard l)).endEngagement .pinFault
        (p.punch.engaged.filter fun c => (p.heard l).any fun r => r.1 == c)
    else p := rfl

/-- A report names a coil. -/
def names (l : List (Nat × CoilFault)) (c : Nat) : Bool := l.any fun r => r.1 == c

theorem names_eq_true {l : List (Nat × CoilFault)} {c : Nat} : names l c = true ↔ ∃ r ∈ l, r.1 = c := by
  simp [names]

theorem heard_names {l : List (Nat × CoilFault)} {p : Part} {c : Nat} (hc : c ∈ p.punch.engaged) :
    names (p.heard l) c = names l c := by
  rw [Bool.eq_iff_iff, names_eq_true, names_eq_true]
  simp only [heard, List.mem_filter, List.contains_iff_mem]
  constructor
  · rintro ⟨r, ⟨hr, -⟩, rfl⟩
    exact ⟨r, hr, rfl⟩
  · rintro ⟨r, hr, rfl⟩
    exact ⟨r, ⟨hr, hc⟩, rfl⟩

theorem heard_eq_nil {l : List (Nat × CoilFault)} {p : Part} :
    p.heard l = [] ↔ ∀ c ∈ p.punch.engaged, names l c = false := by
  simp only [heard, List.filter_eq_nil_iff, List.contains_iff_mem, names, List.any_eq_false, beq_iff_eq]
  constructor
  · rintro h c hc r hr rfl
    exact h r hr hc
  · rintro h r hr hc
    exact h r.1 hc r hr rfl

/-- An engagement that ends leaves the held entry released, past the entries before it. -/
theorem endEngagement_append {p : Part} {es fs : List Entry} {e : Entry} (hh : p.punch.held = true)
    (hq : p.tracker.queue = es ++ e :: fs) (hes : ∀ x ∈ es, x.stage ≠ .atPunch) (he : e.stage = .atPunch)
    (w : SkipReason) (l : List Nat) : (p.endEngagement w l).tracker = { p.tracker with queue := es ++ { e with
      stage := .toDrill, punchResult := some .skipped, punchSkip := some w, faultedPins := l
      deadline := some ⟨.position, p.posDeadline p.timebase.settings.mid⟩ } :: fs } := by
  rw [endEngagement_eq, if_pos hh, releasePunch_append hq hes he]

theorem endEngagement_unheld {p : Part} (hh : p.punch.held = false) (w : SkipReason) (l : List Nat) :
    (p.endEngagement w l).tracker = p.tracker := by
  rw [endEngagement_eq, if_neg (by simp [hh])]

theorem endEngagement_coilHealth (w : SkipReason) (l : List Nat) (p : Part) (c : Nat) :
    (p.endEngagement w l).coilHealth c = p.coilHealth c := by
  rw [endEngagement_eq]
  rfl

/-- Settles O38: the report that is heard is empty or it is not; where it is not, its marks come first and the
engagement ends after them. -/
theorem latchCheckCompletes : Obligations.LatchCheckCompletes := by
  unfold Obligations.LatchCheckCompletes
  intro s p l hp hl hr named
  have hheard : (p.heard l).Pairwise (fun a b => a.1 < b.1) := hl.filter _
  have hrange : ∀ r ∈ p.heard l, 1 ≤ r.1 ∧ r.1 ≤ 49 := fun r h => hr r (List.mem_filter.1 h).1
  refine ⟨fun hs hn => ?_, fun hs hn => ?_, fun hs => ?_⟩
  · refine external_gives hp ?_
    rw [latchCheck_eq, if_pos hs, if_pos (heard_eq_nil.2 hn), heard_eq_nil.2 hn]
    rfl
  · have hne : p.heard l ≠ [] := by
      rw [Ne, heard_eq_nil]
      push Not
      obtain ⟨c, hc, h⟩ := hn
      exact ⟨c, hc, (Bool.not_eq_false _).mpr h⟩
    have hlist : (p.punch.engaged.filter fun c => (p.heard l).any fun r => r.1 == c) = p.punch.engaged.filter named :=
      List.filter_congr fun c hc => heard_names hc
    have hq : p.latchCheck l = (p.markReport (p.heard l)).endEngagement .pinFault (p.punch.engaged.filter named) := by
      rw [latchCheck_eq, if_pos hs, if_neg hne, hlist]
    have hmark := markReport_eq (p.heard l) p
    have heq : p.latchCheck l = { p with tracker := (p.latchCheck l).tracker, punch := { idled p.punch with
        health := (p.markReport (p.heard l)).punch.health } } := by
      rw [hq, endEngagement_eq, hmark]
      rfl
    have hmem {c : Nat} {f : CoilFault} (hc : c ∈ p.punch.engaged) (h : (c, f) ∈ l) : (c, f) ∈ p.heard l :=
      List.mem_filter.2 ⟨h, by simpa using hc⟩
    refine ⟨p.latchCheck l, external_gives hp rfl, ?_, fun c hc => ⟨fun h => ?_, fun h => ?_⟩, fun c hc h => ?_,
      fun hh => ?_, fun es fs e hh hqu hes he => ?_⟩
    · rw [heq]
      rfl
    · rw [hq, endEngagement_coilHealth, markReport_named hheard hrange (hmem hc h)]
      rfl
    · rw [hq, endEngagement_coilHealth, markReport_named hheard hrange (hmem hc h)]
      rfl
    · rw [hq, endEngagement_coilHealth, markReport_unnamed hc hrange]
      rintro r hm rfl
      obtain ⟨hrl, he⟩ := List.mem_filter.1 hm
      rcases h with h | h
      · exact h (by simpa using he)
      · have : named r.1 = true := names_eq_true.2 ⟨r, hrl, rfl⟩
        simp [this] at h
    · rw [hq, endEngagement_unheld (by rw [hmark]; exact hh), hmark]
    · rw [hq, endEngagement_append (es := es) (fs := fs) (e := e) (by rw [hmark]; exact hh) (by rw [hmark]; exact hqu)
        hes he, hmark]
      rfl
  · refine external_gives hp ?_
    rw [latchCheck_eq, if_neg hs]

/-! ### Over-current (R77) -/

theorem mem_insertAsc_iff {m c : Nat} {l : List Nat} : m ∈ insertAsc c l ↔ m = c ∨ m ∈ l := by
  induction l with
  | nil => simp [insertAsc]
  | cons x l ih =>
    rw [insertAsc]
    split
    · simp
    split
    · next h => simp [h]
    · simp only [List.mem_cons, ih]
      tauto

theorem pairwise_insertAsc {c : Nat} {l : List Nat} (h : l.Pairwise (· < ·)) : (insertAsc c l).Pairwise (· < ·) := by
  induction l with
  | nil => simp [insertAsc]
  | cons x l ih =>
    obtain ⟨hx, hl⟩ := List.pairwise_cons.1 h
    rw [insertAsc]
    split
    · next hc =>
      refine List.pairwise_cons.2 ⟨fun y hy => ?_, h⟩
      rcases List.mem_cons.1 hy with rfl | hy
      · exact hc
      · exact hc.trans (hx y hy)
    split
    · exact h
    · refine List.pairwise_cons.2 ⟨fun y hy => ?_, ih hl⟩
      rcases mem_insertAsc_iff.1 hy with rfl | hy
      · omega
      · exact hx y hy

theorem overCurrent_idle {p : Part} {c : Nat} (h : c ∉ p.punch.engaged) :
    p.overCurrent c = p.markCoil c .shortCoil := by
  unfold overCurrent
  rw [if_neg (by simpa using h)]

theorem overCurrent_engage {p : Part} {c : Nat} (h : c ∈ p.punch.engaged) (hs : p.punch.state = .engage) :
    p.overCurrent c = (p.markCoil c .shortCoil).endEngagement .pinFault [c] := by
  unfold overCurrent
  rw [if_pos (by simpa using h), hs]

theorem overCurrent_cycle {p : Part} {c : Nat} (h : c ∈ p.punch.engaged)
    (hs : p.punch.state = .strike ∨ p.punch.state = .ramReturn) : p.overCurrent c =
      (p.markCoil c .shortCoil).onPunch fun x =>
        { x with engaged := x.engaged.filter (· != c), faulted := insertAsc c x.faulted } := by
  unfold overCurrent
  rw [if_pos (by simpa using h)]
  rcases hs with hs | hs <;> rw [hs]

/-- An over-current report changes the map as its mark does, in every state. -/
theorem overCurrent_coilHealth (c k : Nat) (p : Part) :
    (p.overCurrent c).coilHealth k = (p.markCoil c .shortCoil).coilHealth k := by
  by_cases h : c ∈ p.punch.engaged
  · cases hs : p.punch.state with
    | engage => rw [overCurrent_engage h hs, endEngagement_coilHealth]
    | strike => rw [overCurrent_cycle h (.inl hs)]; rfl
    | ramReturn => rw [overCurrent_cycle h (.inr hs)]; rfl
    | idle | fault => unfold overCurrent; rw [if_pos (by simpa using h), hs]
  · rw [overCurrent_idle h]

theorem overCurrent_blocks (c : Nat) (p : Part) :
    p.overCurrent c = { p with punch := (p.overCurrent c).punch, tracker := (p.overCurrent c).tracker } := by
  have hm := markCoil_eq c .shortCoil p
  by_cases h : c ∈ p.punch.engaged
  · cases hs : p.punch.state with
    | engage => rw [overCurrent_engage h hs, endEngagement_eq, hm]
    | strike => rw [overCurrent_cycle h (.inl hs), hm]; rfl
    | ramReturn => rw [overCurrent_cycle h (.inr hs), hm]; rfl
    | idle | fault => unfold overCurrent; rw [if_pos (by simpa using h), hs, hm]
  · rw [overCurrent_idle h, hm]

/-- Settles O39: by the state of the controller and whether the coil is engaged. -/
theorem overCurrentCompletes : Obligations.OverCurrentCompletes := by
  unfold Obligations.OverCurrentCompletes
  intro s p c hp h1 h49
  have hm := markCoil_eq c .shortCoil p
  refine ⟨p.overCurrent c, external_gives hp rfl, ?_, fun k hk hk1 => ?_, overCurrent_blocks c p, fun hc => ?_,
    fun hc hs => ?_, fun hc hs => ?_⟩
  · rw [overCurrent_coilHealth, coilHealth_markCoil _ _ _ _ ⟨h1, h49⟩ h1, if_pos rfl]
  · rw [overCurrent_coilHealth, coilHealth_markCoil _ _ _ _ ⟨h1, h49⟩ hk1, if_neg hk]
  · rw [overCurrent_idle hc]
    exact hm
  · rw [overCurrent_cycle hc hs, hm]
    exact ⟨rfl, rfl, fun k => mem_insertAsc_iff, pairwise_insertAsc⟩
  · rw [overCurrent_engage hc hs]
    refine ⟨?_, fun hh => ?_, fun es fs e hh hqu hes he => ?_⟩
    · rw [endEngagement_eq, hm]
      rfl
    · rw [endEngagement_unheld (by rw [hm]; exact hh), hm]
    · rw [endEngagement_append (es := es) (fs := fs) (e := e) (by rw [hm]; exact hh) (by rw [hm]; exact hqu) hes he, hm]
      rfl

end Part

end Sys2Proof.Machine
end

section
/-! SUPPORT. The ram's events (R74, R75). -/

namespace Sys2Proof.Machine

namespace Part

/-- The ram-up level shows. -/
def ramUp (p : Part) : Part := p.onPunch fun x => { x with ramUpLevel := true }

theorem ramUp_eq {p : Part} (h : p.punch.ramUpLevel = true) : p.ramUp = p := by
  unfold ramUp onPunch
  rw [← h]

/-- How a cycle ends does not depend on the state and the window it ends from. -/
theorem endRamCycle_entering (st : PunchState) (d : Option Count) (p : Part) :
    (p.onPunch fun x => { x with state := st, deadline := d }).endRamCycle = p.endRamCycle := by
  unfold endRamCycle onPunch
  cases p.punch.held <;> rfl

theorem ramReachesTop_return {p : Part} (h : p.punch.state = .ramReturn) : p.ramReachesTop = p.ramUp.endRamCycle :=
  if_pos h

theorem ramReachesBottom_up {p : Part} (h : p.punch.state = .strike) (hu : p.punch.ramUpLevel = true) :
    p.ramReachesBottom = p.ramUp.endRamCycle := by
  rw [ramUp_eq hu]
  unfold ramReachesBottom enterReturn
  rw [if_pos h]
  exact (if_pos (by simpa using hu)).trans (endRamCycle_entering _ _ p)

theorem ramReachesBottom_down {p : Part} (h : p.punch.state = .strike) (hu : p.punch.ramUpLevel = false) :
    p.ramReachesBottom =
      p.onPunch fun x => { x with state := .ramReturn, deadline := some (p.msDeadline x.returnWindow) } := by
  unfold ramReachesBottom enterReturn
  rw [if_pos h]
  exact if_neg (by simp [hu])

theorem endRamCycle_append {p : Part} {es fs : List Entry} {e : Entry} (hh : p.punch.held = true)
    (hs : p.punch.pendingSetup = false) (hq : p.tracker.queue = es ++ e :: fs) (hes : ∀ x ∈ es, x.stage ≠ .atPunch)
    (he : e.stage = .atPunch) : p.endRamCycle = { p with
      punch := idled p.punch
      tracker := { p.tracker with queue := es ++ { e with
        stage := .toDrill, punchSkip := none, faultedPins := p.punch.faulted
        punchResult := some (if p.punch.faulted = [] ∧ p.punch.brokenOff = false then .struck else .partStruck)
        deadline := some ⟨.position, p.posDeadline p.timebase.settings.mid⟩ } :: fs } } := by
  unfold endRamCycle
  dsimp only
  rw [if_pos hh, releasePunch_append hq hes he]
  exact if_neg (by simp [idlePunch, hs])

theorem endRamCycle_unheld {p : Part} (hh : p.punch.held = false) :
    p.endRamCycle = { p with punch := idled p.punch }.pendingPunch := by
  unfold endRamCycle
  dsimp only
  rw [if_neg (by simp [hh])]
  rfl

/-- Settles O40: the two ways in which a cycle ends are one cycle end of the part with ram-up showing. -/
theorem ramEventsComplete : Obligations.RamEventsComplete := by
  unfold Obligations.RamEventsComplete
  intro s p hp idle
  refine ⟨fun hs hu => external_gives hp (ramReachesBottom_down hs hu), fun hs => external_gives hp (if_neg hs),
    fun c hc => ?_, fun hs => external_gives hp (if_neg hs)⟩
  have hexec : exec c s = .next (s.withPart p.ramUp.endRamCycle) := by
    rcases hc with ⟨rfl, hs⟩ | ⟨rfl, hs, hu⟩
    · exact external_gives hp (ramReachesTop_return hs)
    · exact external_gives hp (ramReachesBottom_up hs hu)
  rw [hexec]
  refine ⟨fun es fs e hh hset hq hes he => ?_, fun hh hset => ?_, fun hh hset => ?_⟩
  · rw [endRamCycle_append (p := p.ramUp) hh hset hq hes he]
    rfl
  · have hkeep : ({ p with punch := idle } : Part).pendingPunch = { p with punch := idle } :=
      if_neg fun h => by simp [idle, hset] at h
    rw [endRamCycle_unheld (p := p.ramUp) hh]
    exact congrArg (fun q => Host.Outcome.next (s.withPart q)) hkeep
  · have htake : ({ p with punch := idle } : Part).pendingPunch =
        { p with punch := { idle with pendingSetup := false } }.strikeSetup := if_pos ⟨rfl, hset⟩
    rw [endRamCycle_unheld (p := p.ramUp) hh]
    exact congrArg (fun q => Host.Outcome.next (s.withPart q)) htake

end Part

end Sys2Proof.Machine
end

section
/-! SUPPORT. The spindles of a cycle and its end (R90 to R92). -/

namespace Sys2Proof.Machine

/-! ### Four of a kind -/

theorem Quad.get_set {α : Type} (q : Quad α) (i j : Idx4) (x : α) :
    (q.set i x).get j = if j = i then x else q.get j := by
  cases i <;> cases j <;> rfl

theorem Quad.set_set {α : Type} (q : Quad α) (i : Idx4) (x y : α) : (q.set i x).set i y = q.set i y := by
  cases i <;> rfl

theorem Quad.eq_of_get {α : Type} {q r : Quad α} (h : ∀ i, q.get i = r.get i) : q = r := by
  obtain ⟨q1, q2, q3, q4⟩ := q
  obtain ⟨r1, r2, r3, r4⟩ := r
  obtain rfl : q1 = r1 := h .i1
  obtain rfl : q2 = r2 := h .i2
  obtain rfl : q3 = r3 := h .i3
  obtain rfl : q4 = r4 := h .i4
  rfl

namespace Spindle

theorem working_eq_true {x : Spindle} : x.working = true ↔ x.state = .plunge ∨ x.state = .dwell ∨ x.state = .retract := by
  simp [working, or_assoc]

/-- A spindle that rests is not at work, and one at work is not IDLE. -/
theorem not_idle_of_working {x : Spindle} (h : x.working = true) : x.state ≠ .idle := by
  rcases working_eq_true.1 h with h | h | h <;> simp [h]

/-- DONE and the cycle over: the spindle belongs to none (R92). -/
def rested (x : Spindle) : Spindle := if x.state = .done then x.toIdle else x

/-- In RETRACT under the window of its profile. -/
def retracting (now : Count) (x : Spindle) : Spindle :=
  { x with state := .retract, deadline := some (now + BitVec.ofNat 32 x.profile.retractWindow) }

theorem enterRetract_low {x : Spindle} (now : Count) (h : x.upLevel = false) :
    x.enterRetract now = x.retracting now := if_neg (by simp [h])

/-- Where spindle-up shows, the pass ends as RETRACT is entered. -/
theorem enterRetract_high {x : Spindle} (now : Count) (h : x.upLevel = true) : x.enterRetract now = x.endPass now :=
  (if_pos h).trans (plunge_forgets now (x.passes - 1) x _ x.passes _)

theorem enterDwell_dwells {x : Spindle} (now : Count) (h : 0 < x.profile.dwell) : x.enterDwell now =
    { x with state := .dwell, deadline := some (now + BitVec.ofNat 32 x.profile.dwell) } := if_neg (by omega)

theorem enterDwell_zero {x : Spindle} (now : Count) (h : x.profile.dwell = 0) :
    x.enterDwell now = x.enterRetract now := if_pos h

end Spindle

namespace Part

/-- The part with a spindle set. -/
def withSpindle (i : Idx4) (x : Spindle) (p : Part) : Part :=
  { p with drill := { p.drill with spindles := p.drill.spindles.set i x } }

theorem onSpindle_eq (i : Idx4) (f : Spindle → Spindle) (p : Part) :
    p.onSpindle i f = p.withSpindle i (f (p.spindle i)) := rfl

theorem spindle_withSpindle (i j : Idx4) (x : Spindle) (p : Part) :
    (p.withSpindle i x).spindle j = if j = i then x else p.spindle j := Quad.get_set _ _ _ _

theorem withSpindle_twice (i : Idx4) (x y : Spindle) (p : Part) :
    (p.withSpindle i x).withSpindle i y = p.withSpindle i y := by
  unfold withSpindle
  rw [Quad.set_set]

/-! ### The end of a cycle (R92) -/

theorem cycleOver_eq_true {p : Part} :
    p.cycleOver = true ↔ p.drill.cycle ≠ [] ∧ ∀ i ∈ p.drill.cycle, (p.spindle i).working = false := by
  simp [cycleOver]

/-- The result of a cycle, from the list of the spindles that failed in it. -/
def cycleResult (p : Part) : DrillResult := if p.drill.faulted = [] then .drilled else .partDrilled

theorem endDrillCycle_going {p : Part} (h : p.cycleOver = false) : p.endDrillCycle = p := if_neg (by simp [h])

theorem endDrillCycle_over {p : Part} (h : p.cycleOver = true) : p.endDrillCycle = { p with
    tracker := if p.drill.held then (p.releaseDrill p.cycleResult none p.drill.faulted).tracker else p.tracker
    drill := { p.drill with
      spindles := p.drill.spindles.map Spindle.rested, cycle := [], held := false, faulted := [] } } := by
  unfold endDrillCycle
  rw [if_pos h]
  cases p.drill.held <;> rfl

/-- The end test leaves no cycle that is over. -/
theorem cycleOver_endDrillCycle (p : Part) : p.endDrillCycle.cycleOver = false := by
  cases h : p.cycleOver with
  | false => rw [endDrillCycle_going h, h]
  | true =>
    rw [endDrillCycle_over h]
    rfl

theorem endDrillCycle_append {p : Part} {es fs : List Entry} {e : Entry} (h : p.cycleOver = true)
    (hh : p.drill.held = true) (hq : p.tracker.queue = es ++ e :: fs) (hes : ∀ x ∈ es, x.stage ≠ .atDrill)
    (he : e.stage = .atDrill) : p.endDrillCycle.tracker = { p.tracker with queue := es ++ { e with
      stage := .toGate, drillSkip := none, faultedSpindles := p.drill.faulted, drillResult := some p.cycleResult
      deadline := some ⟨.position, p.posDeadline p.timebase.settings.runOut⟩ } :: fs } := by
  rw [endDrillCycle_over h, if_pos hh, releaseDrill_append hq hes he]

theorem endDrillCycle_unheld {p : Part} (hh : p.drill.held = false) : p.endDrillCycle.tracker = p.tracker := by
  cases h : p.cycleOver with
  | false => rw [endDrillCycle_going h]
  | true => rw [endDrillCycle_over h, if_neg (by simp [hh])]

/-! ### The end test behind a spindle event -/

theorem afterSpindle_takes {p : Part} (hs : p.endDrillCycle.drill.pendingSetup = true)
    (hb : p.endDrillCycle.drillBusy = false) : p.afterSpindle =
      (p.endDrillCycle.onDrill fun d => { d with pendingSetup := false }).drillSetup := if_pos ⟨hs, hb⟩

theorem afterSpindle_unset {p : Part} (hs : p.endDrillCycle.drill.pendingSetup = false) :
    p.afterSpindle = p.endDrillCycle := if_neg fun h => by simp [hs] at h

theorem afterSpindle_busy {p : Part} (hb : p.endDrillCycle.drillBusy = true) :
    p.afterSpindle = p.endDrillCycle := if_neg fun h => by simp [hb] at h

theorem afterSpindle_working {p : Part} {j : Idx4} (hj : j ∈ p.drill.cycle) (hw : (p.spindle j).working = true) :
    p.afterSpindle = p := by
  have hend : p.endDrillCycle = p := endDrillCycle_working hj hw
  rw [afterSpindle_busy, hend]
  rw [hend, drillBusy_iff]
  exact ⟨j, Spindle.not_idle_of_working hw⟩

/-! ### The events of one spindle -/

theorem spindleReachesBottom_plunge {i : Idx4} {p : Part} (h : (p.spindle i).state = .plunge) :
    p.spindleReachesBottom i = (p.withSpindle i
      ({ p.spindle i with downLevel := true }.enterDwell p.timebase.millis)).afterSpindle := by
  have hrow : p.spindleReachesBottom i = ((p.withSpindle i { p.spindle i with downLevel := true }).onSpindle i
      (Spindle.enterDwell p.timebase.millis)).afterSpindle :=
    if_pos (by rw [onSpindle_eq, spindle_withSpindle, if_pos rfl]; exact h)
  rw [hrow, onSpindle_eq, withSpindle_twice, spindle_withSpindle, if_pos rfl]

theorem spindleReachesBottom_else {i : Idx4} {p : Part} (h : (p.spindle i).state ≠ .plunge) :
    p.spindleReachesBottom i = p.withSpindle i { p.spindle i with downLevel := true } :=
  if_neg (by rw [onSpindle_eq, spindle_withSpindle, if_pos rfl]; exact h)

theorem spindleReachesTop_retract {i : Idx4} {p : Part} (h : (p.spindle i).state = .retract) :
    p.spindleReachesTop i = (p.withSpindle i
      ({ p.spindle i with upLevel := true }.endPass p.timebase.millis)).afterSpindle := by
  have hrow : p.spindleReachesTop i = ((p.withSpindle i { p.spindle i with upLevel := true }).onSpindle i
      (Spindle.endPass p.timebase.millis)).afterSpindle :=
    if_pos (by rw [onSpindle_eq, spindle_withSpindle, if_pos rfl]; exact h)
  rw [hrow, onSpindle_eq, withSpindle_twice, spindle_withSpindle, if_pos rfl]

theorem spindleReachesTop_else {i : Idx4} {p : Part} (h : (p.spindle i).state ≠ .retract) :
    p.spindleReachesTop i = p.withSpindle i { p.spindle i with upLevel := true } :=
  if_neg (by rw [onSpindle_eq, spindle_withSpindle, if_pos rfl]; exact h)

/-- Settles O43: the end test first, then the last spindle that comes up, which makes the cycle over. -/
theorem drillCycleEnds : Obligations.DrillCycleEnds := by
  refine ⟨fun r => ?_, fun s p i hp hi hothers hs hpass => ?_⟩
  · intro ends
    have hends : ends = r.cycleOver := by
      unfold ends cycleOver
      refine congrArg _ (congrArg₂ _ rfl (funext fun j => ?_))
      simp [Spindle.working, bne]
    refine ⟨r.endDrillCycle, rfl, fun h => endDrillCycle_going (hends ▸ h), fun h => ?_⟩
    have hover : r.cycleOver = true := hends ▸ h
    refine ⟨fun j => ?_, endDrillCycle_unheld, fun es fs e hh hq hes he => endDrillCycle_append hover hh hq hes he, ?_⟩
    · rw [endDrillCycle_over hover]
      exact Quad.get_map _ _ _
    · rw [endDrillCycle_over hover]
  · intro rested emptied
    have hend : { p.spindle i with upLevel := true }.endPass p.timebase.millis =
        { p.spindle i with state := .done, passes := 0, deadline := none, upLevel := true } := by
      unfold Spindle.endPass
      rw [show (p.spindle i).passes - 1 = 0 by omega]
      rfl
    have hexec : exec (.spindleUp i) s = .next (s.withPart (p.withSpindle i
        { p.spindle i with state := .done, passes := 0, deadline := none, upLevel := true }).afterSpindle) := by
      rw [← hend]
      exact external_gives hp (spindleReachesTop_retract hs)
    rw [hexec]
    generalize hr : p.withSpindle i
      { p.spindle i with state := .done, passes := 0, deadline := none, upLevel := true } = r
    have hspindle (j : Idx4) : (r.spindle j).rested = rested j := by
      rw [← hr, spindle_withSpindle]
      by_cases h : j = i
      · simp only [rested, if_pos h]
        rfl
      · simp only [rested, if_neg h]
        rfl
    have hover : r.cycleOver = true := by
      refine cycleOver_eq_true.2 ⟨?_, fun j hj => ?_⟩
      · rw [← hr]
        exact List.ne_nil_of_mem hi
      · rw [← hr] at hj ⊢
        rw [spindle_withSpindle]
        split
        · rfl
        · next hne => rcases hothers j hj hne with h | h <;> simp [Spindle.working, h]
    have hquad : r.drill.spindles.map Spindle.rested = ⟨rested .i1, rested .i2, rested .i3, rested .i4⟩ :=
      Quad.eq_of_get fun j => (Quad.get_map _ _ _).trans ((hspindle j).trans (by cases j <;> rfl))
    have hdrill : r.endDrillCycle = { p with
        tracker := r.endDrillCycle.tracker, drill := emptied p.drill.pendingSetup } := by
      rw [endDrillCycle_over hover, hquad, ← hr]
      rfl
    have hpend : r.endDrillCycle.drill.pendingSetup = p.drill.pendingSetup := by rw [hdrill]
    have hidle (j : Idx4) : r.endDrillCycle.spindle j = rested j := by
      rw [hdrill]
      cases j <;> rfl
    refine ⟨fun es fs e hh hset hq hes he => ?_, fun hh => ?_⟩
    · rw [afterSpindle_unset (hpend.trans hset), hdrill, hset,
        endDrillCycle_append (es := es) (fs := fs) (e := e) hover (by rw [← hr]; exact hh) (by rw [← hr]; exact hq) hes he,
        ← hr]
      rfl
    · have htracker : r.endDrillCycle.tracker = p.tracker := by
        rw [endDrillCycle_unheld (by rw [← hr]; exact hh), ← hr]
        rfl
      rw [htracker] at hdrill
      refine ⟨fun hset => ?_, fun hset hall => ?_, fun hset hsome => ?_⟩
      · rw [afterSpindle_unset (hpend.trans hset), hdrill, hset]
      · have hfree : r.endDrillCycle.drillBusy = false := by
          rw [← Bool.not_eq_true, drillBusy_iff]
          rintro ⟨j, hj⟩
          exact hj (by rw [hidle, hall])
        rw [afterSpindle_takes (hpend.trans hset) hfree, hdrill]
        rfl
      · have hbusy : r.endDrillCycle.drillBusy = true := by
          rw [drillBusy_iff]
          obtain ⟨j, hj⟩ := hsome
          exact ⟨j, by rwa [hidle]⟩
        rw [afterSpindle_busy hbusy, hdrill, hset]

end Part

end Sys2Proof.Machine
end

section
/-! SUPPORT. The spindle events, and the ends of the windows (R90 to R93). -/

namespace Sys2Proof.Machine

namespace Part

theorem isDue_dwell {p : Part} {i : Idx4} {d : Count} (hd : (p.spindle i).deadline = some d)
    (hs : (p.spindle i).state = .dwell) (h : passed d p.timebase.millis = true) : p.isDue (.dwell i) = true :=
  (spindlePassed_eq hd hs).trans h

theorem isDue_plungeWindow {p : Part} {i : Idx4} {d : Count} (hd : (p.spindle i).deadline = some d)
    (hs : (p.spindle i).state = .plunge) (h : passed d p.timebase.millis = true) : p.isDue (.plungeWindow i) = true :=
  (spindlePassed_eq hd hs).trans h

theorem isDue_drillStuck {p : Part} {i : Idx4} {d : Count} (hd : (p.spindle i).deadline = some d)
    (hs : (p.spindle i).state = .retract) (h : passed d p.timebase.millis = true) : p.isDue (.drillStuck i) = true :=
  (spindlePassed_eq hd hs).trans h

theorem dwellEnds_eq (i : Idx4) (p : Part) : p.dwellEnds i =
    (p.withSpindle i ((p.spindle i).enterRetract p.timebase.millis)).afterSpindle := rfl

theorem plungeFails_eq (i : Idx4) (p : Part) : p.plungeFails i = ((p.addFaulted i).withSpindle i
    ({ p.spindle i with passes := 0, timedOut := true }.enterRetract p.timebase.millis)).afterSpindle := rfl

end Part

/-- With no pass left, drawing up where spindle-up shows comes to rest. -/
theorem Spindle.endPass_last {x : Spindle} (now : Count) (h : x.passes ≤ 1) :
    x.endPass now = { x with state := .done, passes := 0, deadline := none } := by
  unfold endPass
  rw [show x.passes - 1 = 0 by omega]
  rfl

/-- Settles O42: each event enters the next state of its spindle, and the end test follows. -/
theorem spindleEventsComplete : Obligations.SpindleEventsComplete := by
  intro s i placed sets goes due plunges dwells retracts rests passEnds
  have hgoes {c : Instr} {p : Part} {x : Spindle}
      (h : exec c s = .next (s.withPart (p.withSpindle i x).afterSpindle)) : goes c p x :=
    ⟨h, fun ⟨_, hj, hw⟩ => by
      have hrun : (p.withSpindle i x).afterSpindle = p.withSpindle i x :=
        Part.afterSpindle_working (p := p.withSpindle i x) hj hw
      rw [hrun] at h
      exact h⟩
  have hends {c : Instr} {p : Part} {x : Spindle} (hu : x.upLevel = true)
      (h : exec c s = .next (s.withPart (p.withSpindle i (x.endPass p.timebase.millis)).afterSpindle)) :
      passEnds c p x := by
    refine ⟨fun hn => hgoes ?_, fun hn hd => hgoes ?_, fun hn hd hw => hgoes ?_, fun hn hd hw => hgoes ?_⟩
    · rw [h, Spindle.endPass_last _ hn]
    · rw [h, Spindle.endPass, Spindle.plunge_down_low (by omega) hd]
      rfl
    · rw [h, Spindle.endPass, Spindle.plunge_dwell (by omega) hd hw]
      rfl
    · rw [h, Spindle.endPass, Spindle.plunge_through hd hw hu]
  refine ⟨fun p hp => ?_, ?_⟩
  · intro x down up
    have hdown (hs : x.state = .plunge) : exec (.spindleDown i) s =
        .next (s.withPart (p.withSpindle i (down.enterDwell p.timebase.millis)).afterSpindle) :=
      external_gives hp (Part.spindleReachesBottom_plunge hs)
    refine ⟨fun hs hw => hgoes ?_, fun hs hw hu => hgoes ?_, fun hs hw hu => hends hu ?_,
      fun hs => external_gives hp (Part.spindleReachesBottom_else hs),
      fun hs => hends rfl (external_gives hp (Part.spindleReachesTop_retract hs)),
      fun hs => external_gives hp (Part.spindleReachesTop_else hs)⟩
    · rw [hdown hs, Spindle.enterDwell_dwells (x := down) _ hw]
    · rw [hdown hs, Spindle.enterDwell_zero (x := down) _ hw, Spindle.enterRetract_low (x := down) _ hu]
      rfl
    · rw [hdown hs, Spindle.enterDwell_zero (x := down) _ hw, Spindle.enterRetract_high (x := down) _ hu]
  · intro p x d hd hdue
    have hdwell (hs : x.state = .dwell) : exec (.dwellRunsOut i) s =
        .next (s.withPart (p.withSpindle i (x.enterRetract p.timebase.millis)).afterSpindle) :=
      internal_gives (d := .dwell i) (Part.isDue_dwell hd hs hdue) rfl
    refine ⟨fun hs hu => hgoes ?_, fun hs hu => hends hu ?_, fun hs => ?_⟩
    · rw [hdwell hs, Spindle.enterRetract_low _ hu]
      rfl
    · rw [hdwell hs, Spindle.enterRetract_high _ hu]
    · let y : Spindle := { x with passes := 0, timedOut := true }
      have hplunge : exec (.plungeWindowRunsOut i) s = .next (s.withPart ((p.addFaulted i).withSpindle i
          (y.enterRetract p.timebase.millis)).afterSpindle) :=
        internal_gives (d := .plungeWindow i) (Part.isDue_plungeWindow hd hs hdue) (Part.plungeFails_eq i p)
      refine ⟨(p.addFaulted i).drill.faulted, fun j => Part.mem_faulted_addFaulted i j p, Idx4.sorted_ascending _,
        fun hu => hgoes ?_, fun hu => hgoes ?_⟩
      · rw [hplunge, Spindle.enterRetract_low (x := y) _ hu]
        rfl
      · rw [hplunge, Spindle.enterRetract_high (x := y) _ hu, Spindle.endPass_last (x := y) _ (Nat.zero_le 1)]
        rfl

end Sys2Proof.Machine
end

section
/-! SUPPORT. A halt at the punch and at the drill (R80, R96), and the windows of the ram and the spindles (R74, R76, R93). -/

namespace Sys2Proof.Machine

namespace Spindle

/-- A spindle as a halt leaves it, before the end test of its cycle; `atHalt_eq` ties it to the model. -/
def drawn (now : Count) (x : Spindle) : Spindle :=
  if x.state = .plunge ∨ x.state = .dwell then
    if x.upLevel = true then { x with state := .done, passes := 0, deadline := none }
    else { x with state := .retract, passes := 0, deadline := some (now + BitVec.ofNat 32 x.profile.retractWindow) }
  else if x.state = .retract then { x with passes := 0 }
  else x

/-- Drawing up ends in RETRACT, or at once in DONE. -/
theorem drawUp_eq (now : Count) (x : Spindle) : x.drawUp now =
    if x.upLevel = true then { x with state := .done, passes := 0, deadline := none }
    else { x with state := .retract, passes := 0, deadline := some (now + BitVec.ofNat 32 x.profile.retractWindow) } := by
  unfold drawUp
  split
  · next h =>
    have hlast := endPass_last (x := { x with passes := 0 }) now (Nat.zero_le 1)
    exact (enterRetract_high (x := { x with passes := 0 }) now h).trans hlast
  · next h => exact enterRetract_low (x := { x with passes := 0 }) now (by simpa using h)

theorem atHalt_eq (now : Count) (x : Spindle) : x.atHalt now = x.drawn now := by
  unfold atHalt drawn
  cases h : x.state with
  | plunge | dwell => simp [drawUp_eq]
  | retract | idle | done | fault => simp

/-- After a halt a spindle is at work only in RETRACT. -/
theorem drawn_working (now : Count) (x : Spindle) :
    (x.drawn now).working = true ↔ (x.drawn now).state = .retract := by
  unfold drawn
  rw [working_eq_true]
  split
  · split <;> simp
  · next h =>
    split
    · next hr => simp [hr]
    · tauto

end Spindle

namespace Part

/-! ### The punch at a halt -/

theorem haltPunch_kept {p : Part}
    (h : p.punch.state = .idle ∨ p.punch.state = .ramReturn ∨ p.punch.state = .fault) :
    p.haltPunch = { p with punch := { p.punch with held := false, pendingSetup := false } } := by
  unfold haltPunch
  dsimp only
  split
  · next hs => simp [(show p.punch.state = .engage from hs)] at h
  · next hs => simp [(show p.punch.state = .strike from hs)] at h
  · rfl

theorem haltPunch_engage {p : Part} (h : p.punch.state = .engage) :
    p.haltPunch = { p with punch := { idled p.punch with pendingSetup := false } } := by
  unfold haltPunch
  simp only [onPunch_fields, h]
  rfl

theorem haltPunch_strike {p : Part} (h : p.punch.state = .strike) : p.haltPunch =
    if p.punch.ramUpLevel = true then { p with punch := { idled p.punch with pendingSetup := false } }
    else { p with punch := { p.punch with
      state := .ramReturn, deadline := some (p.msDeadline p.punch.returnWindow), held := false
      pendingSetup := false } } := by
  unfold haltPunch
  simp only [onPunch_fields, h]
  unfold enterReturn
  rfl

theorem haltPunch_withdrawn {p : Part}
    (h : p.punch.state = .engage ∨ (p.punch.state = .strike ∧ p.punch.ramUpLevel = true)) :
    p.haltPunch = { p with punch := { idled p.punch with pendingSetup := false } } := by
  rcases h with h | ⟨h, hu⟩
  · exact haltPunch_engage h
  · rw [haltPunch_strike h, if_pos hu]

theorem haltPunch_returns {p : Part} (h : p.punch.state = .strike) (hu : p.punch.ramUpLevel = false) :
    p.haltPunch = { p with punch := { p.punch with
      state := .ramReturn, deadline := some (p.msDeadline p.punch.returnWindow), held := false
      pendingSetup := false } } := by
  rw [haltPunch_strike h, if_neg (by simp [hu])]

/-! ### The drill at a halt -/

/-- The part with its spindles drawn up and no sheet held: a halt, before the end test. -/
def drawnUp (p : Part) : Part :=
  { p with drill := { p.drill with
    held := false, pendingSetup := false, spindles := p.drill.spindles.map (Spindle.drawn p.timebase.millis) } }

theorem haltDrill_eq (p : Part) : p.haltDrill = p.drawnUp.endDrillCycle := by
  have hhalt : Spindle.atHalt p.timebase.millis = Spindle.drawn p.timebase.millis := funext (Spindle.atHalt_eq _)
  unfold haltDrill drawnUp
  rw [hhalt]
  rfl

theorem spindle_drawnUp (i : Idx4) (p : Part) : p.drawnUp.spindle i = (p.spindle i).drawn p.timebase.millis :=
  Quad.get_map _ _ _

theorem haltDrill_cycleOver (p : Part) : p.haltDrill.cycleOver = false := by
  rw [haltDrill_eq]
  exact cycleOver_endDrillCycle _

theorem haltDrill_going {p : Part} (h : p.drawnUp.cycleOver = false) : p.haltDrill = p.drawnUp := by
  rw [haltDrill_eq, endDrillCycle_going h]

theorem haltDrill_over {p : Part} (h : p.drawnUp.cycleOver = true) : p.haltDrill = { p with drill := { p.drill with
    held := false, pendingSetup := false, cycle := [], faulted := []
    spindles := (p.drill.spindles.map (Spindle.drawn p.timebase.millis)).map Spindle.rested } } := by
  rw [haltDrill_eq, endDrillCycle_over h]
  rfl

/-- A cycle that a halt leaves over is no cycle any more; a spindle in FAULT stays so. -/
theorem haltDrill_fault {p : Part} {i : Idx4} (h : (p.spindle i).state = .fault) :
    p.haltDrill.spindle i = p.spindle i := by
  have hdrawn : (p.spindle i).drawn p.timebase.millis = p.spindle i := by simp [Spindle.drawn, h]
  cases hover : p.drawnUp.cycleOver with
  | false => rw [haltDrill_going hover, spindle_drawnUp, hdrawn]
  | true =>
    have hquad : p.haltDrill.spindle i = ((p.spindle i).drawn p.timebase.millis).rested := by
      rw [haltDrill_over hover]
      exact (Quad.get_map _ _ _).trans (congrArg _ (Quad.get_map _ _ _))
    rw [hquad, hdrawn, Spindle.rested, if_neg (by simp [h])]

/-! ### Halt entry at the two stations -/

theorem stopAll_punch (p : Part) : p.stopAll.punch = p.haltPunch.punch := by
  have hline : ((p.onSup fun u => { u with line := .halt }).haltPunch).punch = p.haltPunch.punch := by
    cases h : p.punch.state with
    | idle | ramReturn | fault => rw [haltPunch_kept (p := p) (by simp [h]), haltPunch_kept (by simp [h])]; rfl
    | engage => rw [haltPunch_engage (p := p) h, haltPunch_engage (by simpa using h)]; rfl
    | strike =>
      rw [haltPunch_strike (p := p) h, haltPunch_strike (by simpa using h)]
      cases hu : p.punch.ramUpLevel <;> simp [hu, msDeadline]
  simp [stopAll, haltStations, hline]

theorem cycleOver_congr {p q : Part} (h : q.drill = p.drill) : q.cycleOver = p.cycleOver := by
  unfold cycleOver spindle
  rw [h]

theorem endDrillCycle_congr {p q : Part} (h : q.drill = p.drill) : q.endDrillCycle.drill = p.endDrillCycle.drill := by
  cases hover : p.cycleOver with
  | false => rw [endDrillCycle_going hover, endDrillCycle_going ((cycleOver_congr h).trans hover), h]
  | true => rw [endDrillCycle_over hover, endDrillCycle_over ((cycleOver_congr h).trans hover), h]

theorem stopAll_drill (p : Part) : p.stopAll.drill = p.haltDrill.drill := by
  have hdrawn : ((p.onSup fun u => { u with line := .halt }).haltPunch).drawnUp.drill = p.drawnUp.drill := by
    simp [drawnUp]
  have hhalt : ((p.onSup fun u => { u with line := .halt }).haltPunch).haltDrill.drill = p.haltDrill.drill := by
    rw [haltDrill_eq, haltDrill_eq p, endDrillCycle_congr hdrawn]
  simp [stopAll, haltStations, hhalt]

theorem raise_punch {p : Part} (h : p.sup.line ≠ .halt) (c : Cause) (w : Option Nat) :
    (p.raise c w).punch = p.haltPunch.punch := by
  obtain ⟨-, -, -, hpunch, -, -⟩ := enterHalt_blocks c w p
  rw [raise_outside_halt h, hpunch, stopAll_punch]

theorem raise_drill {p : Part} (h : p.sup.line ≠ .halt) (c : Cause) (w : Option Nat) :
    (p.raise c w).drill = p.haltDrill.drill := by
  obtain ⟨-, -, -, -, hdrill, -⟩ := enterHalt_blocks c w p
  rw [raise_outside_halt h, hdrill, stopAll_drill]

theorem noteSecondary_eq (c : Cause) (w : Option Nat) (p : Part) :
    p.noteSecondary c w = { p with sup := (p.noteSecondary c w).sup } := rfl

theorem noteSecondary_line (c : Cause) (w : Option Nat) (p : Part) : (p.noteSecondary c w).sup.line = p.sup.line := by
  cases h : p.sup.secondary with
  | none => rw [noteSecondary_first h]
  | some x => rw [noteSecondary_more (by simp [h])]

/-- The line is in HALT after every cause (R153). -/
theorem raise_line (c : Cause) (w : Option Nat) (p : Part) : (p.raise c w).sup.line = .halt := by
  by_cases h : p.sup.line = .halt
  · rw [raise_in_halt h, noteSecondary_line, h]
  · exact (raise_halts h c w).1

/-! ### The books concerned (R156) -/

theorem punchConcerned_eq (p : Part) : p.punchConcerned =
    if p.punch.held then (p.oldest .atPunch).bind fun e => if e.isVoid then none else some e.book else none := by
  unfold punchConcerned
  cases p.oldest .atPunch <;> rfl

theorem drillConcerned_eq (p : Part) : p.drillConcerned =
    if p.drill.held then (p.oldest .atDrill).bind fun e => if e.isVoid then none else some e.book else none := by
  unfold drillConcerned
  cases p.oldest .atDrill <;> rfl

/-! ### A stuck ram and a stuck spindle -/

/-- The punch in FAULT stays so through a cause. -/
theorem raise_faultPunch (c : Cause) (w : Option Nat) (p : Part) :
    (p.faultPunch.raise c w).punch.state = .fault ∧ (p.faultPunch.raise c w).punch.engaged = [] := by
  by_cases h : p.sup.line = .halt
  · rw [raise_in_halt (by simpa using h), noteSecondary_eq]
    exact ⟨rfl, rfl⟩
  · rw [raise_punch (by simpa using h), haltPunch_kept (.inr (.inr rfl))]
    exact ⟨rfl, rfl⟩

/-- A spindle in FAULT stays so through a cause and the end test behind it. -/
theorem raise_fault_spindle {i : Idx4} {p : Part} (hs : (p.spindle i).state = .fault) (c : Cause) (w : Option Nat) :
    (p.raise c w).spindle i = p.spindle i := by
  by_cases h : p.sup.line = .halt
  · rw [raise_in_halt h, noteSecondary_eq]
    rfl
  · unfold spindle
    rw [raise_drill h]
    exact haltDrill_fault hs

theorem endDrillCycle_fault {i : Idx4} {p : Part} (hs : (p.spindle i).state = .fault) :
    p.endDrillCycle.spindle i = p.spindle i := by
  cases h : p.cycleOver with
  | false => rw [endDrillCycle_going h]
  | true =>
    have hquad : p.endDrillCycle.spindle i = (p.spindle i).rested := by
      rw [endDrillCycle_over h]
      exact Quad.get_map _ _ _
    rw [hquad, Spindle.rested, if_neg (by simp [hs])]

/-- With a spindle in FAULT the station is busy, and the end test takes no setup. -/
theorem afterSpindle_fault {i : Idx4} {p : Part} (hs : (p.spindle i).state = .fault) :
    p.afterSpindle = p.endDrillCycle := by
  refine afterSpindle_busy ((drillBusy_iff _).2 ⟨i, ?_⟩)
  rw [endDrillCycle_fault hs, hs]
  simp

theorem spindle_faultSpindle (i : Idx4) (p : Part) : (p.faultSpindle i).spindle i = (p.spindle i).toFault :=
  (Quad.get_set _ _ _ _).trans (if_pos rfl)

/-- Settles O41: each cause is raised on the part whose ram or spindle is withdrawn or in FAULT already. -/
theorem stuckAndStalledComplete : Obligations.StuckAndStalledComplete := by
  intro s i d p hdue concerned
  refine ⟨fun hd => ⟨fun hs hl => ?_, fun hs => ?_⟩, fun hs hd => ?_⟩
  · intro q
    have hq : p.ramStalls = q := by rw [ramStalls, punchConcerned_eq]
    have hpunch : q.punch = p.haltPunch.punch := raise_punch hl _ _
    refine ⟨internal_gives (d := .ramStall) ((isDue_ramStall hd hs hl).trans hdue) hq, (raise_halts hl _ _).1,
      raise_cause hl _ _, by rw [hpunch, (haltPunch_held p).1], ?_⟩
    rw [hpunch, haltPunch_strike hs]
    cases p.punch.ramUpLevel <;> rfl
  · intro faulted q
    have hq : p.ramSticks = q := by rw [ramSticks, punchConcerned_eq]; rfl
    obtain ⟨hfault, hengaged⟩ := raise_faultPunch .ramStuck (concerned p.punch.held .atPunch) p
    refine ⟨internal_gives (d := .ramStuck) ((isDue_ramStuck hd hs).trans hdue) hq, hfault, hengaged, raise_line _ _ _,
      fun hl => raise_cause (p := faulted) hl _ _, fun hl => ?_⟩
    have hnote : q = faulted.noteSecondary .ramStuck (concerned p.punch.held .atPunch) := raise_in_halt hl
    rw [hnote]
    refine ⟨rfl, fun h => ?_, fun h => ?_⟩
    · rw [noteSecondary_first (p := faulted) h]
    · rw [noteSecondary_more (p := faulted) h]
  · intro faulted q
    have hq : p.spindleSticks i = q.afterSpindle := by rw [spindleSticks, drillConcerned_eq]; rfl
    have hfault : (faulted.spindle i) = (p.spindle i).toFault := spindle_faultSpindle i p
    have hraised : q.spindle i = (p.spindle i).toFault :=
      (raise_fault_spindle (p := faulted) (by rw [hfault]; rfl) _ _).trans hfault
    have hend : q.afterSpindle = q.endDrillCycle := afterSpindle_fault (by rw [hraised]; rfl)
    have hspindle : q.afterSpindle.spindle i = (p.spindle i).toFault := by
      rw [hend, endDrillCycle_fault (by rw [hraised]; rfl), hraised]
    refine ⟨internal_gives (d := .drillStuck i) (isDue_drillStuck hd hs hdue) hq, by rw [hspindle]; rfl,
      by rw [hspindle]; rfl, raise_line _ _ _, by simp, fun hl => ⟨?_, raise_cause (p := faulted) hl _ _⟩,
      fun hl hsec => ?_, fun hl hsec => ?_⟩
    · rw [hend, endDrillCycle_going]
      rw [cycleOver_congr (raise_drill (p := faulted) hl _ _)]
      exact haltDrill_cycleOver faulted
    · have hnote : q = faulted.noteSecondary (.drillStuck i) (concerned p.drill.held .atDrill) := raise_in_halt hl
      rw [hnote, noteSecondary_first (p := faulted) hsec]
    · have hnote : q = faulted.noteSecondary (.drillStuck i) (concerned p.drill.held .atDrill) := raise_in_halt hl
      rw [hnote, noteSecondary_more (p := faulted) hsec]

end Part

end Sys2Proof.Machine
end

section
/-! SUPPORT. The reference ticks, the encoder, a jam, the steps of a bind and the input rows. -/

namespace Sys2Proof.Machine

namespace Part

/-! ### The timebase (R126 to R129) -/

theorem goodTick_unset {p : Part} (h : p.timebase.state = .unset) : p.goodTick = p := by
  unfold goodTick onTimebase
  simp only [h]

theorem goodTick_valid {p : Part} (h : p.timebase.state = .valid) :
    p.goodTick = { p with timebase := { p.timebase with millis := p.timebase.millis + 1 } } := by
  unfold goodTick onTimebase
  simp only [h]

/-- While the run of good ticks is counted, the 64th makes the timebase VALID. -/
theorem goodTick_counts {p : Part} (h : p.timebase.state = .starting ∨ p.timebase.state = .lost) :
    p.goodTick = { p with timebase := { p.timebase with
      runCount := p.timebase.runCount + 1
      state := if 64 ≤ p.timebase.runCount + 1 then .valid else p.timebase.state } } := by
  unfold goodTick onTimebase
  rcases h with h | h <;> simp only [h] <;> rfl

theorem badTick_unset {p : Part} (h : p.timebase.state = .unset) : p.badTick = p := by
  unfold badTick
  simp only [h]

theorem badTick_counts {p : Part} (h : p.timebase.state = .starting ∨ p.timebase.state = .lost) :
    p.badTick = { p with timebase := { p.timebase with runCount := 0 } } := by
  unfold badTick
  split
  · next hs => simp [hs] at h
  · rfl
  · rfl
  · next hs => simp [hs] at h

/-- The timebase is LOST. -/
def lostTime (p : Part) : Part := { p with timebase := { p.timebase with runCount := 0, state := .lost } }

theorem badTick_valid {p : Part} (h : p.timebase.state = .valid) : p.badTick =
    if p.sup.line = .idle then p.lostTime else p.lostTime.raise .timebaseLost none := by
  unfold badTick
  simp only [h]
  rfl

theorem encoderEdge_counts {p : Part} {x : Transition} (hx : selects p.timebase.settings.edge x = true)
    (hs : p.timebase.state ≠ .unset) (hl : p.sup.line = .run) :
    p.encoderEdge x = { p with timebase := { p.timebase with position := p.timebase.position + 1 } } :=
  if_pos ⟨hx, hs, by simp [transportRun, hl]⟩

theorem encoderEdge_ignored {p : Part} {x : Transition}
    (h : selects p.timebase.settings.edge x = false ∨ p.timebase.state = .unset ∨ p.sup.line ≠ .run) :
    p.encoderEdge x = p := by
  refine if_neg ?_
  rintro ⟨hx, hs, hl⟩
  rcases h with h | h | h
  · simp [h] at hx
  · exact hs h
  · exact h (by simpa [transportRun] using hl)

end Part

/-- Settles O47: by the state of the timebase, and for a loss by the line state. -/
theorem clockEventsComplete : Obligations.ClockEventsComplete := by
  intro s p hp t goes
  have hgood (x : Timebase) (h : p.goodTick = { p with timebase := x }) : goes (.referenceTick true) x :=
    external_gives hp h
  have hbad {i : Instr} (hi : i ∈ [Instr.referenceTick false, .referenceGap]) {q : Part} (h : p.badTick = q) :
      exec i s = .next (s.withPart q) := by
    rcases List.mem_pair.1 hi with rfl | rfl
    · exact external_gives hp h
    · exact external_gives hp h
  refine ⟨fun hs => hgood _ (Part.goodTick_valid hs), fun hs hn => hgood _ ?_, fun hs hn => hgood _ ?_, fun i hi => ?_,
    fun hs => ⟨hgood _ (Part.goodTick_unset hs), hbad (.head _) (Part.badTick_unset hs),
      hbad (.tail _ (.head _)) (Part.badTick_unset hs)⟩, fun x hx hs hl => ?_, fun x hx => ?_⟩
  · rw [Part.goodTick_counts hs, if_neg (show ¬ 64 ≤ t.runCount + 1 by omega)]
  · rw [Part.goodTick_counts hs, if_pos (show 64 ≤ t.runCount + 1 by omega), show p.timebase.runCount = 63 from hn]
  · refine ⟨fun hs => hbad hi (Part.badTick_counts hs),
      fun hs hl => hbad hi ((Part.badTick_valid hs).trans (if_pos hl)), fun hs hl => ?_, fun hs hl => ?_⟩
    · intro q
      have hidle : p.sup.line ≠ .idle := by rcases hl with h | h <;> simp [h]
      have hhalt : p.sup.line ≠ .halt := by rcases hl with h | h <;> simp [h]
      exact ⟨hbad hi ((Part.badTick_valid hs).trans (if_neg hidle)), by simp [q], Part.raise_line _ _ _,
        Part.raise_cause (p := p.lostTime) hhalt _ _⟩
    · have hraise : p.badTick = p.lostTime.noteSecondary .timebaseLost none := by
        rw [Part.badTick_valid hs, if_neg (by simp [hl]), Part.raise_in_halt (p := p.lostTime) hl]
      exact ⟨fun hsec => hbad hi (hraise.trans (Part.noteSecondary_first (p := p.lostTime) hsec)),
        fun hsec => hbad hi (hraise.trans (Part.noteSecondary_more (p := p.lostTime) hsec))⟩
  · refine external_gives hp (Part.encoderEdge_counts ?_ hs hl)
    rcases hx with h | ⟨h, rfl⟩ | ⟨h, rfl⟩
    · rw [show p.timebase.settings.edge = .both from h]; rfl
    · rw [show p.timebase.settings.edge = .rising from h]; rfl
    · rw [show p.timebase.settings.edge = .falling from h]; rfl
  · refine external_gives hp (Part.encoderEdge_ignored ?_)
    rcases hx with h | h | ⟨h, rfl⟩ | ⟨h, rfl⟩
    · exact .inr (.inl h)
    · exact .inr (.inr h)
    · rw [show p.timebase.settings.edge = .rising from h]
      exact .inl rfl
    · rw [show p.timebase.settings.edge = .falling from h]
      exact .inl rfl

/-! ### A jam (R132) -/

namespace Part

theorem segment_inTransit (seg : Segment) : seg.stage.inTransit = true := by
  cases seg <;> rfl

/-- A halt leaves no entry in transit, and so no segment occupied. -/
theorem stopAll_slot (p : Part) (seg : Segment) : p.stopAll.slot seg = none := by
  have hnone : p.stopAll.oldest seg.stage = none := by
    unfold oldest
    rw [stopAll_tracker, List.find?_eq_none]
    simp only [List.mem_map, beq_iff_eq]
    rintro e ⟨x, -, rfl⟩ hstage
    split at hstage
    · cases seg <;> cases hstage
    · next h => exact h (by rw [hstage]; exact segment_inTransit seg)
  unfold slot
  rw [hnone]

end Part

/-- Settles O48: the cause is raised with the entry of the slot, and the halt empties every slot. -/
theorem jamCompletes : Obligations.JamCompletes := by
  intro s seg d e p hslot hdue hl q
  have hjam : p.jammed seg = q := by
    unfold Part.jammed
    rw [hslot]
  have henter : q = p.enterHalt (.jam seg e.sequence) (if e.isVoid then none else some e.book) :=
    Part.raise_outside_halt hl
  refine ⟨internal_gives (d := .jam seg) ((Part.isDue_jam hslot hl).trans hdue) hjam, Part.raise_line _ _ _, ?_,
    fun sg => ?_⟩
  · rw [henter, Part.enterHalt_sup]
    exact ⟨_, rfl, rfl, rfl, rfl⟩
  · have htracker : q.tracker = p.stopAll.tracker := by rw [henter, (Part.enterHalt_blocks _ _ p).1]
    have hslots : q.slot sg = p.stopAll.slot sg := by
      unfold Part.slot Part.oldest
      rw [htracker]
    rw [hslots, Part.stopAll_slot]

/-! ### The steps of a bind (R107 to R109) -/

namespace Part

/-- The closer in a state, under a window of the settings in force. -/
theorem enterCloser_eq (st : CloserState) (w : CloserWindows → Nat) (p : Part) : p.enterCloser st w =
    { p with closer := { p.closer with state := st, deadline := some (p.msDeadline (w p.closer.windows)) } } := rfl

theorem clampDone_feeds {p : Part} (h : p.closer.state = .clamp) (hh : p.currentHanger = false) :
    p.clampDone = p.enterFeed := by
  unfold clampDone
  rw [if_pos h, if_neg (by simp [hh])]

theorem clampDone_hanger {p : Part} (h : p.closer.state = .clamp) (hh : p.currentHanger = true) :
    p.clampDone = if p.closer.hangerEmpty then (p.enterCloser .hanger CloserWindows.hanger).closerFails .hangerEmpty
      else p.enterCloser .hanger CloserWindows.hanger := by
  unfold clampDone
  rw [if_pos h, if_pos hh]
  rfl

theorem loopPulse_feed {p : Part} {a : ActiveCount} (h : p.closer.state = .feed) (ha : p.closer.active = some a) :
    p.loopPulse = { p with closer := { p.closer with
      active := some { a with value := a.value - 1 }
      state := if a.value ≤ 1 then .cut else .feed
      deadline := some (p.msDeadline (if a.value ≤ 1 then p.closer.windows.cut else p.closer.windows.loop)) } } := by
  unfold loopPulse
  rw [if_pos h, ha]
  dsimp only
  split <;> rfl

theorem cutDone_staged {p : Part} {g : StagedCount} (h : p.closer.state = .cut) (hg : p.closer.staged = some g) :
    p.cutDone = { p with closer := { p.closer with
      active := some ⟨g.value, g.book, g.id, .atCut⟩, staged := none, state := .close
      deadline := some (p.msDeadline p.closer.windows.close) } } := by
  unfold cutDone onCloser
  rw [if_pos h]
  dsimp only
  rw [hg]
  rfl

theorem cutDone_unstaged {p : Part} (h : p.closer.state = .cut) (hg : p.closer.staged = none) :
    p.cutDone = p.enterCloser .close CloserWindows.close := by
  unfold cutDone onCloser
  rw [if_pos h]
  dsimp only
  rw [hg]

end Part

/-- Settles O44: one row for each state of the cycle. -/
theorem closerStepsComplete : Obligations.CloserStepsComplete := by
  intro s p hp c goes due
  refine ⟨fun hs hh => external_gives hp (Part.clampDone_feeds hs hh),
    fun hs hh he => external_gives hp ((Part.clampDone_hanger hs hh).trans (if_neg (by simpa using he))),
    fun hs => external_gives hp (if_pos hs), fun a hs ha hv => external_gives hp ?_,
    fun a hs ha hv => external_gives hp ?_, fun g hs hg => external_gives hp (Part.cutDone_staged hs hg),
    fun hs hg => external_gives hp (Part.cutDone_unstaged hs hg),
    fun hs => external_gives hp (if_pos hs), fun hs => external_gives hp (if_neg hs),
    fun hs => external_gives hp (if_neg hs), fun hs => external_gives hp (if_neg hs),
    fun hs => external_gives hp (if_neg hs), fun hs => external_gives hp (if_neg hs)⟩
  · rw [Part.loopPulse_feed hs ha, if_neg (by omega), if_neg (by omega), ← hs]
    rfl
  · rw [Part.loopPulse_feed hs ha, if_pos (by omega), if_pos (by omega), hv]
    rfl

/-! ### The inputs (R144 to R147, R161) -/

namespace Part

theorem supplyFalls_inactive {p : Part} (h : p.sup.supplyLow = false) : p.supplyFalls =
    if p.sup.line = .idle then { p with sup := { p.sup with supplyLow := true } }
    else ({ p with sup := { p.sup with supplyLow := true } } : Part).raise .supplyLow none := by
  unfold supplyFalls
  rw [if_neg (by simp [h])]
  rfl

theorem driverShuts_inactive {p : Part} (h : p.sup.driverShutdown = false) : p.driverShuts =
    if p.sup.line = .idle then { p with sup := { p.sup with driverShutdown := true } }
    else ({ p with sup := { p.sup with driverShutdown := true } } : Part).raise .driverShutdown none := by
  unfold driverShuts
  rw [if_neg (by simp [h])]
  rfl

theorem stopPressed_inactive {p : Part} (h : p.sup.stopInput = false) : p.stopPressed =
    ({ p with sup := { p.sup with stopInput := true } } : Part).raise .externalStop none := by
  unfold stopPressed
  rw [if_neg (by simp [h])]
  rfl

end Part

/-- Settles O51: an input that becomes active sets its level and, outside IDLE, raises its cause; in HALT that is the
secondary record or the more flag. -/
theorem inputRowsComplete : Obligations.InputRowsComplete := by
  intro s p hp halts sup
  have hhalts {c : Instr} {w : Cause} {u : Supervisor} {f : Part → Part} (hl : u.line ≠ .halt)
      (hc : exec c s = external f s) (hf : f p = ({ p with sup := u } : Part).raise w none) : halts c w u := by
    refine ⟨hc.trans (external_gives hp hf), Part.raise_line _ _ _,
      Part.raise_cause (p := { p with sup := u }) hl _ _, ?_⟩
    rw [Part.raise_outside_halt (p := { p with sup := u }) hl, Part.enterHalt_sup]
    exact ⟨rfl, rfl, rfl⟩
  have hactive (hl : p.sup.line = .run ∨ p.sup.line = .hold) : p.sup.line ≠ .idle ∧ p.sup.line ≠ .halt := by
    rcases hl with h | h <;> simp [h]
  have hfirst {w : Cause} {u : Supervisor} (hl : u.line = .halt) (hs : u.secondary = none) :
      ({ p with sup := u } : Part).raise w none = { p with sup := { u with secondary := some ⟨w, none⟩ } } := by
    rw [Part.raise_in_halt (p := { p with sup := u }) hl, Part.noteSecondary_first (p := { p with sup := u }) hs]
  have hmore {w : Cause} {u : Supervisor} (hl : u.line = .halt) (hs : u.secondary ≠ none) :
      ({ p with sup := u } : Part).raise w none = { p with sup := { u with more := true } } := by
    rw [Part.raise_in_halt (p := { p with sup := u }) hl, Part.noteSecondary_more (p := { p with sup := u }) hs]
  have hline {l : LineState} (hl : p.sup.line = .halt) (h : l = p.sup.line) : l ≠ .idle := by simp [h, hl]
  refine ⟨fun h hl => hhalts (hactive hl).2 rfl ((Part.supplyFalls_inactive h).trans (if_neg (hactive hl).1)),
    fun h hl => external_gives hp ((Part.supplyFalls_inactive h).trans (if_pos hl)),
    fun h hl => hhalts (hactive hl).2 rfl ((Part.driverShuts_inactive h).trans (if_neg (hactive hl).1)),
    fun h hl => external_gives hp ((Part.driverShuts_inactive h).trans (if_pos hl)),
    fun h hl => hhalts hl rfl (Part.stopPressed_inactive h),
    fun hl hs => ⟨fun h => external_gives hp ?_, fun h => external_gives hp ?_, fun h => external_gives hp ?_⟩,
    fun hl hs => ⟨fun h => external_gives hp ?_, fun h => external_gives hp ?_, fun h => external_gives hp ?_⟩,
    external_gives hp rfl, external_gives hp rfl, external_gives hp rfl, external_gives hp rfl, external_gives hp rfl,
    fun l => external_gives hp rfl, external_gives hp rfl, external_gives hp rfl, fun i => ?_⟩
  · exact ((Part.supplyFalls_inactive h).trans (if_neg (hline hl rfl))).trans (hfirst hl hs)
  · exact ((Part.driverShuts_inactive h).trans (if_neg (hline hl rfl))).trans (hfirst hl hs)
  · exact (Part.stopPressed_inactive h).trans (hfirst hl hs)
  · exact ((Part.supplyFalls_inactive h).trans (if_neg (hline hl rfl))).trans (hmore hl hs)
  · exact ((Part.driverShuts_inactive h).trans (if_neg (hline hl rfl))).trans (hmore hl hs)
  · exact (Part.stopPressed_inactive h).trans (hmore hl hs)
  · have hset (x : Spindle) (j : Idx4) : (p.withSpindle i x).spindle j = if j = i then x else p.spindle j :=
      Part.spindle_withSpindle i j x p
    refine ⟨p.withSpindle i { p.spindle i with downLevel := false }, p.withSpindle i { p.spindle i with upLevel := false },
      external_gives hp rfl, external_gives hp rfl, (hset _ i).trans (if_pos rfl), (hset _ i).trans (if_pos rfl),
      fun j hj => ⟨(hset _ j).trans (if_neg hj), (hset _ j).trans (if_neg hj)⟩, rfl, rfl⟩

end Sys2Proof.Machine
end

section
/-! SUPPORT. Settling as a run of the part's own rows (log 1), and the lookups, tests and outputs that the state fixes. -/

namespace Sys2Proof.Machine

/-! ### The part's own rows -/

/-- The rows of the requests, each with its code (R179, R189). -/
def requestRows : List (Nat × Instr) :=
  [(1, .readStatus), (2, .readQueue), (3, .readBook), (4, .readPattern), (5, .readDrill), (6, .readCloser),
    (7, .readHalt), (16, .run), (17, .stop), (18, .halt), (19, .resume), (20, .clearFaults), (21, .reset),
    (32, .loadPattern), (33, .clearPattern), (34, .setPunch), (35, .setProfile), (36, .mapSpindles), (37, .setCloser),
    (38, .setTimebase), (39, .startTimebase), (40, .stations), (41, .service), (42, .setLine), (48, .amendBook),
    (49, .cancelBook)]

theorem exec_requestRows (s : State) : ∀ r ∈ requestRows, exec r.2 s = request (· == r.1) s := by
  intro r hr
  fin_cases hr <;> rfl

theorem requestRows_known {c : Nat} (h : Part.knownCode c = true) : ∃ i, (c, i) ∈ requestRows := by
  have hbound : c < 50 := by
    simp only [Part.knownCode, inRange, Bool.or_eq_true, Bool.and_eq_true, decide_eq_true_eq] at h
    omega
  have htable : ∀ c < 50, Part.knownCode c = true → c ∈ requestRows.map Prod.fst := by decide
  obtain ⟨⟨c, i⟩, hr, rfl⟩ := List.mem_map.1 (htable c hbound h)
  exact ⟨i, hr⟩

/-- The rows that the part takes by itself. -/
def ownRows : List Instr :=
  requestRows.map Prod.snd ++ [.unknownRequest, .resetCompletes, .ticketClassified, .sheetAdmitted, .jam .leadIn, .jam .mid,
    .jam .runOut, .jam .drop, .ramStall, .ramStuck, .closerWindowRunsOut, .dumpWindowRunsOut] ++
  Idx4.all.flatMap fun i => [.dwellRunsOut i, .plungeWindowRunsOut i, .drillStuck i]

/-- The head of the command list is executed by the row of its code, or by the unknown request. -/
theorem exec_execute {s : State} (h : s.toPart.isDue .execute = true) :
    ∃ i ∈ ownRows, exec i s = .next (s.withPart s.toPart.executeHead) := by
  obtain ⟨it, hit⟩ := Option.isSome_iff_exists.1 h
  cases hk : Part.knownCode it.ticket.code with
  | true =>
    obtain ⟨i, hi⟩ := requestRows_known hk
    have hmem : i ∈ requestRows.map Prod.snd := List.mem_map_of_mem hi
    exact ⟨i, List.mem_append_left _ (List.mem_append_left _ hmem),
      (exec_requestRows s _ hi).trans (request_next hit (by simp))⟩
  | false => exact ⟨.unknownRequest, by decide, request_next (codes := fun c => !Part.knownCode c) hit (by simp [hk])⟩

/-- Each due step is one of the rows. -/
theorem exec_due {s : State} {d : Due} (h : s.toPart.isDue d = true) :
    ∃ i ∈ ownRows, exec i s = .next (s.withPart (s.toPart.takeDue d)) := by
  have hstep : internal d s = .next (s.withPart (s.toPart.takeDue d)) := internal_due h
  cases d with
  | execute => exact exec_execute h
  | resetCompletes => exact ⟨.resetCompletes, by decide, hstep⟩
  | classify => exact ⟨.ticketClassified, by decide, hstep⟩
  | admitSheet => exact ⟨.sheetAdmitted, by decide, hstep⟩
  | jam seg => exact ⟨.jam seg, by cases seg <;> decide, hstep⟩
  | ramStall => exact ⟨.ramStall, by decide, hstep⟩
  | ramStuck => exact ⟨.ramStuck, by decide, hstep⟩
  | dwell i => exact ⟨.dwellRunsOut i, by cases i <;> decide, hstep⟩
  | plungeWindow i => exact ⟨.plungeWindowRunsOut i, by cases i <;> decide, hstep⟩
  | drillStuck i => exact ⟨.drillStuck i, by cases i <;> decide, hstep⟩
  | closerWindow => exact ⟨.closerWindowRunsOut, by decide, hstep⟩
  | dumpWindow => exact ⟨.dumpWindowRunsOut, by decide, hstep⟩

/-- A run of the part's own rows leads from one state to another. -/
def OwnRun (s t : State) : Prop :=
  ∃ (l : List Instr) (f : Nat → State), (∀ i ∈ l, i ∈ ownRows) ∧ f 0 = s ∧ f l.length = t ∧
    ∀ k i, l[k]? = some i → exec i (f k) = .next (f (k + 1))

theorem OwnRun.refl (s : State) : OwnRun s s := ⟨[], fun _ => s, by simp, rfl, rfl, by simp⟩

/-- The states of a run with one more at its head. -/
def runFrom (s : State) (f : Nat → State) : Nat → State
  | 0 => s
  | k + 1 => f k

theorem OwnRun.cons {s t u : State} {i : Instr} (hi : i ∈ ownRows) (hs : exec i s = .next t) (h : OwnRun t u) :
    OwnRun s u := by
  obtain ⟨l, f, hl, hf, hend, hstep⟩ := h
  refine ⟨i :: l, runFrom s f, ?_, rfl, hend, fun k j hk => ?_⟩
  · intro x hx
    rcases List.mem_cons.1 hx with rfl | hx
    · exact hi
    · exact hl x hx
  · cases k with
    | zero =>
      obtain rfl : i = j := by simpa using hk
      exact hs.trans (congrArg _ hf.symm)
    | succ k => exact hstep k j (by simpa using hk)

theorem ownRun_settleFor (n : Nat) (s : State) : OwnRun s (s.withPart (Part.settleFor n s.toPart)) := by
  induction n generalizing s with
  | zero => exact .refl s
  | succ n ih =>
    cases hd : s.toPart.nextDue with
    | none =>
      rw [Part.settleFor_of_quiet hd]
      exact .refl s
    | some d =>
      obtain ⟨i, hi, hstep⟩ := exec_due (Part.nextDue_due hd)
      rw [Part.settleFor, hd]
      exact .cons hi hstep (ih (s.withPart (s.toPart.takeDue d)))

/-- A part that no row of its own changes is settled. -/
theorem settleFor_fixed {s : State} (h : ∀ i ∈ ownRows, exec i s = .next s) (n : Nat) :
    Part.settleFor n s.toPart = s.toPart := by
  induction n with
  | zero => rfl
  | succ n ih =>
    cases hd : s.toPart.nextDue with
    | none => exact Part.settleFor_of_quiet hd _
    | some d =>
      obtain ⟨i, hi, hstep⟩ := exec_due (Part.nextDue_due hd)
      have hsame : s.withPart (s.toPart.takeDue d) = s := by
        rw [h i hi] at hstep
        exact (Host.Outcome.next.inj hstep).symm
      have hkeep : s.toPart.takeDue d = s.toPart := congrArg State.toPart hsame
      rw [Part.settleFor, hd]
      exact (congrArg (Part.settleFor n) hkeep).trans ih

end Sys2Proof.Machine
end

section
/-! SUPPORT. The lookups, the tests and the outputs that the state fixes. -/

namespace Sys2Proof.Machine

namespace Part

/-! ### Lookups -/

theorem oldest_eq_some {st : Stage} {p : Part} {e : Entry} : p.oldest st = some e ↔
    ∃ es fs, p.tracker.queue = es ++ e :: fs ∧ (∀ x ∈ es, x.stage ≠ st) ∧ e.stage = st := by
  unfold oldest
  rw [List.find?_eq_some_iff_append]
  constructor
  · rintro ⟨hst, es, fs, hq, hes⟩
    exact ⟨es, fs, hq, by simpa using hes, by simpa using hst⟩
  · rintro ⟨es, fs, hq, hes, hst⟩
    exact ⟨by simpa using hst, es, fs, hq, by simpa using hes⟩

theorem hasStage_iff {st : Stage} {p : Part} : p.hasStage st = true ↔ ∃ e ∈ p.tracker.queue, e.stage = st := by
  simp [hasStage]

/-- The first record with a property of its own. -/
theorem find_record {key : Book → Nat} {l : List Book} {n : Nat} {b : Book} :
    l.find? (fun x => key x == n) = some b ↔ ∃ bs cs, l = bs ++ b :: cs ∧ (∀ x ∈ bs, key x ≠ n) ∧ key b = n := by
  rw [List.find?_eq_some_iff_append]
  constructor
  · rintro ⟨hb, bs, cs, hl, hbs⟩
    exact ⟨bs, cs, hl, by simpa using hbs, by simpa using hb⟩
  · rintro ⟨bs, cs, hl, hbs, hb⟩
    exact ⟨by simpa using hb, bs, cs, hl, by simpa using hbs⟩

theorem bookSpoiled_iff {n : Nat} {p : Part} : p.bookSpoiled n = true ↔ ∃ b, p.book? n = some b ∧ b.state = .spoiled := by
  unfold bookSpoiled
  cases p.book? n <;> simp

theorem patterns_at {n : Nat} (h : n < 64) (p : Part) : p.patterns.toList[n]? = some ⟨p.pattern? n, p.useCount n⟩ := by
  simp [pattern?, useCount, h]

theorem health_at {c : Nat} (h1 : 1 ≤ c) (h : c ≤ 49) (p : Part) :
    p.punch.health.toList[c - 1]? = some (p.coilHealth c) := by
  simp [coilHealth, show c - 1 < 49 by omega]

theorem faultedCoils_iff (p : Part) : p.faultedCoils ≠ 0 ↔ ∃ c, 1 ≤ c ∧ c ≤ 49 ∧ p.coilHealth c ≠ .ok := by
  unfold faultedCoils
  rw [← Nat.pos_iff_ne_zero, List.countP_pos_iff]
  constructor
  · rintro ⟨h, hmem, hok⟩
    obtain ⟨i, hi, rfl⟩ := List.mem_iff_getElem.1 hmem
    have hlen : i < 49 := by simpa using hi
    have hat := health_at (c := i + 1) (by omega) (by omega) p
    have hcoil : p.coilHealth (i + 1) = p.punch.health.toList[i] := by
      rw [Nat.add_sub_cancel, List.getElem?_eq_getElem hi] at hat
      exact (Option.some.inj hat).symm
    exact ⟨i + 1, by omega, by omega, by rw [hcoil]; simpa using hok⟩
  · rintro ⟨c, h1, h49, hc⟩
    exact ⟨p.coilHealth c, List.mem_of_getElem? (health_at h1 h49 p), by simpa using hc⟩

/-! ### Tests -/

theorem effective_iff (x : Station) (p : Part) : p.effective x = true ↔ p.stations.activation.has x = true ∧
    p.stations.outOfService.has x = false ∧ p.stations.guardsOpen.has x = false := by
  simp [effective, and_assoc]

theorem ownFault_iff (e : Entry) : e.ownFault = true ↔ e.punchResult = some .partStruck ∨
    e.punchResult = some .skipped ∨ e.drillResult = some .partDrilled ∨ e.drillResult = some .skipped := by
  simp [Entry.ownFault, or_assoc]

theorem dieMatches_iff (d : Option DieKind) (l : BitVec 3) :
    dieMatches d l = true ↔ l ≠ 0 ∧ d = some (.kind l.toNat) := by
  have hzero : l.toNat ≠ 0 ↔ l ≠ 0 := by
    rw [Ne, Ne, ← BitVec.toNat_inj]
    rfl
  unfold dieMatches
  split
  · next n =>
    simp only [Bool.and_eq_true, bne_iff_ne, hzero, beq_iff_eq, Option.some.injEq, DieKind.kind.injEq]
    exact and_congr_right fun _ => eq_comm
  · next hd =>
    simp only [Bool.false_eq_true, false_iff, not_and]
    exact fun _ h => hd _ h

theorem freePocket_iff (k : PocketId) (p : Part) : p.freePocket = some k ↔
    (p.pocket k).state = .free ∧ (k = .b → (p.pocket .a).state ≠ .free) := by
  have ha : p.pocket .a = p.closer.pocketA := rfl
  have hb : p.pocket .b = p.closer.pocketB := rfl
  unfold freePocket
  rw [ha]
  split
  · next h => cases k <;> simp [ha, h]
  split
  · next h h' => cases k <;> simp [ha, hb, h, h']
  · next h h' => cases k <;> simp [ha, hb, h, h']

/-! ### The head of the command list (R177, R178) -/

theorem readyHead_iff {it : Item} {p : Part} : p.readyHead = some it ↔
    p.cmd.list.head? = some it ∧ p.cmd.resetting = none ∧ p.eligible it = true := by
  unfold readyHead
  cases p.cmd.list with
  | nil => simp
  | cons x l =>
    simp only [List.head?_cons, Option.some.injEq, Option.ite_none_right_eq_some, Bool.and_eq_true, Option.isNone_iff_eq_none]
    constructor
    · rintro ⟨⟨hr, he⟩, rfl⟩
      exact ⟨rfl, hr, he⟩
    · rintro ⟨rfl, hr, he⟩
      exact ⟨⟨hr, he⟩, rfl⟩

theorem slotsUsed_free {p : Part} (h : p.cmd.resetting = none) : p.slotsUsed = p.port.outList.length := by
  simp [slotsUsed, h]

theorem executable_iff {it : Item} {p : Part} : p.executable = some it ↔ p.cmd.list.head? = some it ∧
    p.cmd.resetting = none ∧ p.eligible it = true ∧ (it.addressed = true → p.port.outList.length < 8) := by
  have hslots : p.cmd.resetting = none → ((!it.addressed || decide (p.slotsUsed < Config.outSlots)) = true ↔
      (it.addressed = true → p.port.outList.length < 8)) := by
    intro hr
    rw [slotsUsed_free hr]
    rw [Bool.or_eq_true, decide_eq_true_iff]
    cases it.addressed <;> simp [Config.outSlots]
  unfold executable
  constructor
  · intro h
    cases hr : p.readyHead with
    | none => simp [hr] at h
    | some x =>
      obtain ⟨hhead, hres, hel⟩ := readyHead_iff.1 hr
      rw [hr] at h
      obtain ⟨hfree, hx⟩ := Option.ite_none_right_eq_some.1 h
      obtain rfl := Option.some.inj hx
      exact ⟨hhead, hres, hel, (hslots hres).1 hfree⟩
  · rintro ⟨hhead, hres, hel, hfree⟩
    rw [readyHead_iff.2 ⟨hhead, hres, hel⟩]
    exact if_pos ((hslots hres).2 hfree)

/-- A request at the head of the list wants a slot. -/
def Asks (p : Part) : Prop := ∃ it, p.cmd.list.head? = some it ∧ p.cmd.resetting = none ∧ p.eligible it = true ∧
  it.addressed = true

/-- A RESET in progress has a slot reserved. -/
def Reserved (p : Part) : Prop := ∃ r, p.cmd.resetting = some r ∧ r.reserved = true

theorem asks_iff {p : Part} : p.Asks ↔ p.readyHead.any Item.addressed = true := by
  rw [Option.any_eq_true]
  exact exists_congr fun it => by rw [readyHead_iff]; tauto

theorem reserved_iff {p : Part} : p.Reserved ↔ p.cmd.resetting.any ResetProgress.reserved = true := by
  rw [Option.any_eq_true]
  rfl

theorem not_reserved_of_asks {p : Part} (h : p.Asks) : ¬ p.Reserved := by
  obtain ⟨it, -, hres, -⟩ := h
  rintro ⟨r, hr, -⟩
  rw [hres] at hr
  cases hr

theorem outFree_eq (p : Part) : p.outFree = 8 - p.port.outList.length -
    (if p.cmd.resetting.any ResetProgress.reserved then 1 else 0) -
    (if p.readyHead.any Item.addressed then 1 else 0) := by
  unfold outFree slotsUsed
  rw [Nat.sub_add_eq]
  rfl

theorem outFree_taken {p : Part} (h : p.Asks ∨ p.Reserved) : p.outFree = 7 - p.port.outList.length := by
  rw [outFree_eq]
  rcases h with h | h
  · have hnot : ¬ p.cmd.resetting.any ResetProgress.reserved = true := fun hr => not_reserved_of_asks h (reserved_iff.2 hr)
    rw [if_neg hnot, if_pos (asks_iff.1 h)]
    omega
  · have hnot : ¬ p.readyHead.any Item.addressed = true := fun ha => not_reserved_of_asks (asks_iff.2 ha) h
    rw [if_pos (reserved_iff.1 h), if_neg hnot]
    omega

theorem outFree_untaken {p : Part} (ha : ¬ p.Asks) (hr : ¬ p.Reserved) : p.outFree = 8 - p.port.outList.length := by
  rw [outFree_eq, if_neg fun h => hr (reserved_iff.2 h), if_neg fun h => ha (asks_iff.2 h)]
  rfl

/-! ### Outputs (R138, R139, R148, R150, R158, R171) -/

theorem noticePending_iff (p : Part) :
    p.noticePending = true ↔ p.sup.notice ≠ none ∨ ∃ t, p.port.sending = some ⟨.haltNotice, t⟩ := by
  have hsending : (p.port.sending.any fun x => x.owner == .haltNotice) = true ↔
      ∃ t, p.port.sending = some ⟨.haltNotice, t⟩ := by
    rw [Option.any_eq_true]
    constructor
    · rintro ⟨⟨o, t⟩, hs, ho⟩
      obtain rfl : o = .haltNotice := by simpa using ho
      exact ⟨t, hs⟩
    · rintro ⟨t, hs⟩
      exact ⟨_, hs, by simp⟩
  rw [noticePending, Bool.or_eq_true, hsending, Option.isSome_iff_ne_none]

theorem feedHold_iff (p : Part) : p.feedHold = false ↔
    p.sup.line = .run ∧ p.sup.feedMargin ≤ p.tracker.queue.countP fun e => e.stage == .waiting := by
  unfold feedHold
  rw [Bool.not_eq_false', Bool.and_eq_true, decide_eq_true_iff, beq_iff_eq]
  rfl

theorem holdOut_inside {p : Part} {bytes : List Byte} (h : p.port.rx = .inside bytes) :
    p.holdOut = true ↔ 4 ≤ p.port.rxBuf.length + 1 := by
  simp [holdOut, placesOccupied, h, Config.rxPlaces]

theorem holdOut_outside {p : Part} (h : ∀ bytes, p.port.rx ≠ .inside bytes) :
    p.holdOut = true ↔ 4 ≤ p.port.rxBuf.length := by
  unfold holdOut placesOccupied
  split
  · next b hb => exact absurd hb (h b)
  · simp [Config.rxPlaces]

theorem anySpindleFault_iff (p : Part) : p.anySpindleFault = true ↔ ∃ i, (p.spindle i).state = .fault := by
  unfold anySpindleFault Quad.toList
  simp only [List.any_cons, List.any_nil, Bool.or_false, Bool.or_eq_true, beq_iff_eq]
  constructor
  · rintro (h | h | h | h)
    exacts [⟨.i1, h⟩, ⟨.i2, h⟩, ⟨.i3, h⟩, ⟨.i4, h⟩]
  · rintro ⟨i, h⟩
    cases i
    exacts [.inl h, .inr (.inl h), .inr (.inr (.inl h)), .inr (.inr (.inr h))]

theorem faultLine_iff (p : Part) : p.faultLine = true ↔ p.sup.line = .halt ∨ p.punch.state = .fault ∨
    (∃ i, (p.spindle i).state = .fault) ∨
    (p.sup.enables.pinFaults = true ∧ ∃ c, 1 ≤ c ∧ c ≤ 49 ∧ p.coilHealth c ≠ .ok) ∨
    (p.sup.enables.closerFault = true ∧ p.closer.state = .fault) ∨
    (p.sup.enables.linkError = true ∧ p.port.linkError = true) ∨
    (p.sup.enables.driverHot = true ∧ p.sup.driverHotFlag = true) ∨
    (p.sup.enables.powerUp = true ∧ p.sup.powerUpFlag = true) := by
  rw [← anySpindleFault_iff, ← faultedCoils_iff]
  simp [faultLine, classes, or_assoc]

/-- The closer's drives, by its state (R101). -/
theorem closerDrive_iff (p : Part) :
    (p.closerDrive.clamp = true ↔ p.closer.state ∈ [CloserState.clamp, .hanger, .feed, .cut, .close]) ∧
    (p.closerDrive.hanger = true ↔ p.closer.state = .hanger) ∧ (p.closerDrive.feed = true ↔ p.closer.state = .feed) ∧
    (p.closerDrive.cut = true ↔ p.closer.state = .cut) ∧ (p.closerDrive.close = true ↔ p.closer.state = .close) ∧
    (p.closerDrive.eject = true ↔ p.closer.state = .eject) ∧ (p.closerDrive.dump = true ↔ p.closer.state = .dump) := by
  unfold closerDrive
  cases p.closer.state <;> simp

theorem cycleRunning_closer (p : Part) : p.cycleRunning .closer = true ↔
    p.closer.state ∈ [CloserState.clamp, .hanger, .feed, .cut, .close, .eject, .dump] := by
  unfold cycleRunning bindState
  cases p.closer.state <;> simp

theorem cycleRunning_punch (p : Part) :
    p.cycleRunning .punch = true ↔ p.punch.state ∈ [PunchState.engage, .strike, .ramReturn] := by
  simp [cycleRunning, or_assoc]

end Part

/-- Settles O52: the runs of the own rows, then each lookup, test and output by its lemma. -/
theorem outputsFollowState : Obligations.OutputsFollowState := by
  refine ⟨fun s => ⟨ownRun_settleFor _ s, fun h => settleFor_fixed h _⟩, fun e => ⟨?_, fun o => rfl⟩,
    fun x => ⟨rfl, Spindle.working_eq_true, fun c hc => ?_⟩, fun q => ⟨rfl, rfl⟩, rfl, rfl, rfl,
    fun x v => ⟨rfl, rfl, rfl, rfl⟩, fun it => by simp [Item.addressed], fun p => ?_⟩
  · exact Option.isSome_iff_ne_none
  · unfold Spindle.profile
    rw [hc]
  · refine ⟨fun st e => Part.oldest_eq_some, fun st => Part.hasStage_iff, rfl, fun n b => Part.find_record,
      fun i b => Part.find_record, fun n => Part.bookSpoiled_iff, fun n h => Part.patterns_at h p,
      fun c h1 h49 => Part.health_at h1 h49 p, rfl, rfl, rfl, p.drillBusy_iff, p.noticePending_iff,
      p.effective_iff .punch, p.effective_iff .drill, p.effective_iff .closer, rfl, Part.ownFault_iff,
      Part.dieMatches_iff, p.cycleRunning_punch, by simp [Part.cycleRunning], p.cycleRunning_closer,
      fun b => by simp [Part.loaded, Option.any_eq_true], fun k => p.freePocket_iff k, fun it => Part.executable_iff,
      ⟨Part.outFree_taken, Part.outFree_untaken⟩, by simp [Part.transportRun], p.feedHold_iff,
      fun bytes => Part.holdOut_inside, Part.holdOut_outside, fun h => if_pos (p.cycleRunning_punch.2 h), fun h => ?_,
      by simp [Part.ramCommandDown], fun i => ?_, p.closerDrive_iff, p.faultLine_iff, fun h => if_pos h,
      fun h h' => ?_, fun h h' h'' => ?_, fun h => ?_, fun h => ?_, fun h h' => ?_, fun h h' => ?_⟩
    · refine if_neg fun hc => ?_
      have hcycle := p.cycleRunning_punch.1 hc
      cases hs : p.punch.state <;> simp [hs] at h hcycle
    · simp only [Part.feedCommandDown, Bool.or_eq_true, beq_iff_eq]
      rfl
    · unfold Part.signal
      rw [if_neg h, if_pos h']
    · unfold Part.signal
      rw [if_neg h, if_neg (by tauto)]
    · unfold Part.signalOn
      rw [h]
    · unfold Part.signalOn
      rw [h]
    · unfold Part.signalOn
      rw [h]
      simp [h']
    · unfold Part.signalOn
      rw [h]
      simp [h']

end Sys2Proof.Machine
end

section
/-! SUPPORT. A closer step fails (R107, R114, R115). -/

namespace Sys2Proof.Machine

namespace Part

/-- The closer in FAULT, with its record written. -/
def faultCloser (cur : Current) (w : CloserCause) (p : Part) : Part :=
  { p with closer := { p.closer with
    state := .fault, deadline := none, faultRecord := some ⟨p.closer.state, cur.book, cur.pocket, w⟩ } }

theorem closerFails_eq {p : Part} {cur : Current} (h : p.closer.current = some cur) (w : CloserCause) :
    p.closerFails w = if p.closer.state = .dump then p.faultCloser cur w
      else (p.faultCloser cur w).spoil cur.book .closerFault false := by
  unfold closerFails
  rw [h]
  rfl

theorem closerFails_dump {p : Part} {cur : Current} (h : p.closer.current = some cur) (hs : p.closer.state = .dump)
    (w : CloserCause) : p.closerFails w = p.faultCloser cur w := by
  rw [closerFails_eq h, if_pos hs]

theorem closerFails_bind {p : Part} {cur : Current} (h : p.closer.current = some cur) (hs : p.closer.state ≠ .dump)
    (w : CloserCause) : p.closerFails w = (p.faultCloser cur w).spoil cur.book .closerFault false := by
  rw [closerFails_eq h, if_neg hs]

/-- A bind that fails: the closer in FAULT, and the CLOSING book SPOILED with its pocket kept. -/
theorem closerFails_closing {p : Part} {k : PocketId} {b : Book} (hc : p.closer.current = some ⟨k, b.number⟩)
    (hb : p.book? b.number = some b) (hs : b.state = .closing) (hk : b.pocket = some k) (hd : p.closer.state ≠ .dump)
    (w : CloserCause) :
    p.closerFails w = { p with
      books := (p.closerFails w).books, closer := (p.faultCloser ⟨k, b.number⟩ w).closer } ∧
    (p.closerFails w).book? b.number = some { b with
      state := .spoiled, spoilReason := some .closerFault, generation := b.generation + 1 } ∧
    (∀ m, m ≠ b.number → (p.closerFails w).book? m = p.book? m) ∧
    (p.closerFails w).books.tailBook = p.books.tailBook ∧ (p.closerFails w).books.endOrder = p.books.endOrder := by
  have hfault : (p.faultCloser ⟨k, b.number⟩ w).book? b.number = some b := hb
  have hopen : (Book.spoiledBy .closerFault false b).mayEnd = false := by
    have hpocket : (Book.spoiledBy .closerFault false b).pocket = some k := hk
    simp [Book.mayEnd, hpocket]
  obtain ⟨hfound, hothers, htail, hend⟩ := spoil_closing_changed false hfault hs (.inl rfl)
  have hcloser := spoil_closer_kept .closerFault false hfault (.inl hs)
  have hblocks := spoil_blocks b.number .closerFault false (p.faultCloser ⟨k, b.number⟩ w)
  rw [Book.tested, hopen] at hfound
  rw [hopen] at hend
  rw [hcloser] at hblocks
  rw [closerFails_bind hc hd]
  exact ⟨hblocks, hfound, hothers, htail, hend.trans (List.append_nil _)⟩

theorem hangerRunsEmpty_hanger {p : Part} (h : p.closer.state = .hanger) : p.hangerRunsEmpty =
    ({ p with closer := { p.closer with hangerEmpty := true } } : Part).closerFails .hangerEmpty := if_pos h

theorem hangerRunsEmpty_else {p : Part} (h : p.closer.state ≠ .hanger) :
    p.hangerRunsEmpty = { p with closer := { p.closer with hangerEmpty := true } } := if_neg h

theorem bindState_not_dump {st : CloserState} (h : bindState st = true) : st ≠ .dump := by
  rintro rfl
  cases h

end Part

/-- Settles O46: each failure is one `closerFails`, of the part the event has made. -/
theorem closerFaultsComplete : Obligations.CloserFaultsComplete := by
  intro s k b fails
  refine ⟨fun d hs hd hdue hc hb hst hk => ?_, fun p hp hs hc hb hst hk => ?_, fun p hp hs hh he hc hb hst hk => ?_,
    fun p hp hs => external_gives hp (Part.hangerRunsEmpty_else hs), fun d hs hd hdue hc => ?_⟩
  · have hexec : exec .closerWindowRunsOut s = .next (s.withPart (s.toPart.closerFails .window)) :=
      internal_gives (d := .closerWindow) ((Part.isDue_closerWindow hd hs).trans hdue) rfl
    exact ⟨_, hexec, Part.closerFails_closing hc hb hst hk (Part.bindState_not_dump hs) .window⟩
  · have hfail := Part.closerFails_closing (p := { p with closer := { p.closer with hangerEmpty := true } }) hc hb hst hk
      (show p.closer.state ≠ .dump by simp [hs]) .hangerEmpty
    rw [← Part.hangerRunsEmpty_hanger hs] at hfail
    obtain ⟨hblocks, hbook⟩ := hfail
    refine ⟨p.hangerRunsEmpty, external_gives hp rfl, hblocks.trans ?_, hbook⟩
    rw [← hs]
    rfl
  · have hhanger : p.currentHanger = true := by
      unfold Part.currentHanger
      rw [hc, Option.bind_some, hb]
      exact hh
    have hfail := Part.closerFails_closing (p := p.enterCloser .hanger CloserWindows.hanger) hc hb hst hk
      (show CloserState.hanger ≠ .dump by decide) .hangerEmpty
    rw [← (Part.clampDone_hanger hs hhanger).trans (if_pos he)] at hfail
    obtain ⟨hblocks, hbook⟩ := hfail
    refine ⟨p.clampDone, external_gives hp rfl, hblocks.trans ?_, hbook⟩
    rw [← he]
    rfl
  · exact internal_gives (d := .dumpWindow) ((Part.isDue_dumpWindow hd hs).trans hdue)
      ((Part.closerFails_dump hc hs .window).trans (by rw [Part.faultCloser, hs]))

end Sys2Proof.Machine
end

section
/-! SUPPORT. The end of a closer cycle, and what follows a freed pocket: the gate decision retaken, then the take. -/

namespace Sys2Proof.Machine

namespace Part

/-! ### The end of a cycle (R109, R110) -/

/-- A record whose pocket has been emptied. -/
def unpocketed (b : Book) : Book := { b with pocket := none }

theorem ejectBound_eq {p : Part} {k : PocketId} {b : Book} (hc : p.closer.current = some ⟨k, b.number⟩)
    (hb : p.book? b.number = some b) : p.ejectBound =
      ((((p.updateBook b.number unpocketed).updateBook b.number (Book.endedWith .bound)).onBooks
        fun t => { t with endOrder := t.endOrder ++ [b.id] }).setPocket k ⟨.free, none⟩).idleCloser := by
  have hfound : (p.updateBook b.number unpocketed).book? b.number = some (unpocketed b) := by
    rw [book?_updateBook _ _ unpocketed fun _ => rfl, if_pos rfl, hb]
    rfl
  unfold ejectBound
  rw [hc]
  exact congrArg (fun q => (setPocket k ⟨.free, none⟩ q).idleCloser)
    (endBook_eq (p := p.updateBook b.number unpocketed) (b := unpocketed b) .bound hfound)

theorem ejectBound_book? {p : Part} {k : PocketId} {b : Book} (hc : p.closer.current = some ⟨k, b.number⟩)
    (hb : p.book? b.number = some b) (m : Nat) : p.ejectBound.book? m =
      if m = b.number then some (Book.endedWith .bound (unpocketed b)) else p.book? m := by
  have hread : p.ejectBound.book? m =
      ((p.updateBook b.number unpocketed).updateBook b.number (Book.endedWith .bound)).book? m := by
    rw [ejectBound_eq hc hb]
    cases k <;> rfl
  rw [hread, book?_updateBook _ _ (Book.endedWith .bound) fun _ => rfl, book?_updateBook _ _ unpocketed fun _ => rfl]
  split
  · next h => rw [h, hb]; rfl
  · rfl

theorem dumpEmptied_eq {p : Part} {cur : Current} (hc : p.closer.current = some cur) : p.dumpEmptied =
    (p.giveUpPocket cur.pocket cur.book fun b => { b with diverted := b.diverted + b.gathered }).idleCloser := by
  unfold dumpEmptied
  rw [hc]

/-- A pocket given up: it is FREE, and the record has changed with its end test behind it. -/
theorem giveUpPocket_changed {p : Part} {k : PocketId} {b : Book} {f : Book → Book} (hb : p.book? b.number = some b)
    (hf : ∀ b, (f b).number = b.number) :
    RecordChanged p (p.giveUpPocket k b.number f) b.number { f b with gathered := 0, pocket := none } := by
  unfold giveUpPocket
  refine endTest_changed (p := p) (f := fun b => { f b with gathered := 0, pocket := none }) hb (fun x => hf x) ?_
  unfold updateBook
  simp

theorem giveUpPocket_closer (k : PocketId) (n : Nat) (f : Book → Book) (p : Part) :
    (p.giveUpPocket k n f).closer = (p.setPocket k ⟨.free, none⟩).closer := by
  unfold giveUpPocket
  rw [endTest_blocks]
  rfl

theorem giveUpPocket_blocks (k : PocketId) (n : Nat) (f : Book → Book) (p : Part) : p.giveUpPocket k n f =
    { p with books := (p.giveUpPocket k n f).books, closer := (p.giveUpPocket k n f).closer } := by
  unfold giveUpPocket
  rw [endTest_blocks]
  cases k <;> rfl

theorem setPocket_closer (k : PocketId) (x : Pocket) (p : Part) : (p.setPocket k x).closer = { p.closer with
    pocketA := (p.setPocket k x).closer.pocketA, pocketB := (p.setPocket k x).closer.pocketB } := by
  cases k <;> rfl

theorem idleCloser_setPocket {p r : Part} {k : PocketId} {x : Pocket} (h : r.closer = (p.setPocket k x).closer) :
    r.idleCloser.closer = { p.closer with
      state := .idle, current := none, deadline := none
      pocketA := r.idleCloser.closer.pocketA, pocketB := r.idleCloser.closer.pocketB } := by
  have hidle : r.idleCloser.closer = { r.closer with state := .idle, current := none, deadline := none } := rfl
  rw [hidle, h]
  cases k <;> rfl

/-! ### The take (R106, R107, R110, R111) -/

/-- The take conditions, but for the request list. -/
def Ready (r : Part) : Prop := r.closer.state = .idle ∧ (r.sup.line = .run ∨ r.sup.line = .hold) ∧
  r.stations.activation.closer = true ∧ r.stations.outOfService.closer = false ∧ r.stations.guardsOpen.closer = false

/-- A sheet is on its way into a pocket. -/
def Falling (k : PocketId) (r : Part) : Prop :=
  ∃ e ∈ r.tracker.queue, e.stage = .dropping ∧ e.destination = some k.dest

theorem ready_iff (r : Part) : r.Ready ↔
    r.closer.state = .idle ∧ (r.sup.line = .run ∨ r.sup.line = .hold) ∧ r.effective .closer = true := by
  rw [effective_iff]
  rfl

theorem falling_iff (k : PocketId) (r : Part) : r.Falling k ↔ r.settled k = false := by
  simp [Falling, settled]

theorem tryTake_not_ready {r : Part} (h : ¬r.Ready ∨ r.closer.requests = []) : r.tryTake = r := by
  have hnone : r.takeable = none := by
    unfold takeable
    rcases h with h | h
    · exact if_neg fun hc => h ((ready_iff r).2 hc)
    · rw [h]
      exact ite_self _
  unfold tryTake
  rw [hnone]

theorem takeable_head {r : Part} {k : PocketId} {ks : List PocketId} (h : r.Ready) (hr : r.closer.requests = k :: ks) :
    r.takeable = if (r.pocket k).state = .dumpWait ∧ r.settled k = false then none else some k := by
  unfold takeable
  rw [if_pos ((ready_iff r).1 h), hr]

theorem tryTake_falling {r : Part} {k : PocketId} {ks : List PocketId} (h : r.Ready) (hr : r.closer.requests = k :: ks)
    (hd : (r.pocket k).state = .dumpWait) (hf : r.Falling k) : r.tryTake = r := by
  unfold tryTake
  rw [takeable_head h hr, if_pos ⟨hd, (falling_iff k r).1 hf⟩]

theorem tryTake_takes {r : Part} {k : PocketId} {ks : List PocketId} (h : r.Ready) (hr : r.closer.requests = k :: ks)
    (hd : (r.pocket k).state = .dumpWait → ¬r.Falling k) : r.tryTake = r.take k := by
  unfold tryTake
  rw [takeable_head h hr, if_neg]
  rintro ⟨hs, hf⟩
  exact hd hs ((falling_iff k r).2 hf)

/-- The active count at a take, of the record whose count is active already or of the record taken (R111). -/
theorem loadActive_closer (b : Book) (p : Part) : (p.loadActive b).closer = { p.closer with
    active := some ((p.closer.active.filter fun a => a.id == b.id).getD ⟨b.loopCount, b.number, b.id, .atTake⟩) } := by
  unfold loadActive
  simp only [onCloser_fields]
  obtain ⟨state, current, a, b', requests, deadline, active, staged, wire, windows, record, empty⟩ := p.closer
  cases active with
  | none => rfl
  | some a => by_cases hi : a.id = b.id <;> simp [Option.filter, hi]

theorem dropActive_closer (i : Nat) (p : Part) :
    (p.dropActive i).closer = { p.closer with active := p.closer.active.filter fun a => a.id != i } := by
  unfold dropActive
  simp only [onCloser_fields]
  obtain ⟨state, current, a, b', requests, deadline, active, staged, wire, windows, record, empty⟩ := p.closer
  cases active with
  | none => rfl
  | some a => by_cases hi : a.id = i <;> simp [Option.filter, hi]

theorem movePocket_closer (k : PocketId) (st : PocketState) (p : Part) : (p.movePocket k st).closer = { p.closer with
    pocketA := (p.movePocket k st).closer.pocketA, pocketB := (p.movePocket k st).closer.pocketB } :=
  setPocket_closer k _ p

theorem movePocket_blocks (k : PocketId) (st : PocketState) (p : Part) :
    p.movePocket k st = { p with closer := (p.movePocket k st).closer } := by
  cases k <;> rfl

/-- The take of a FULL pocket, block by block. -/
theorem takeBind_blocks (k : PocketId) (b : Book) (p : Part) : p.takeBind k b = { p with
    books := (p.updateBook b.number (Book.enter .closing)).books
    closer := { p.closer with
      state := .clamp, current := some ⟨k, b.number⟩, deadline := some (p.msDeadline p.closer.windows.clamp)
      pocketA := (p.takeBind k b).closer.pocketA, pocketB := (p.takeBind k b).closer.pocketB
      active := some ((p.closer.active.filter fun a => a.id == b.id).getD ⟨b.loopCount, b.number, b.id, .atTake⟩)
      staged := p.closer.staged.filter fun g => g.id != b.id } } := by
  have hloaded := loadActive_closer b ((p.updateBook b.number (Book.enter .closing)).movePocket k .binding)
  have hdropped := dropStaged_closer_eq b.id (((p.updateBook b.number (Book.enter .closing)).movePocket k .binding).loadActive b)
  rw [hloaded, movePocket_closer] at hdropped
  have hblocks : p.takeBind k b = { (p.updateBook b.number (Book.enter .closing)) with
      closer := (p.takeBind k b).closer } := by
    cases k <;> rfl
  have hcloser : (p.takeBind k b).closer = { p.closer with
      state := .clamp, current := some ⟨k, b.number⟩, deadline := some (p.msDeadline p.closer.windows.clamp)
      pocketA := (p.takeBind k b).closer.pocketA, pocketB := (p.takeBind k b).closer.pocketB
      active := some ((p.closer.active.filter fun a => a.id == b.id).getD ⟨b.loopCount, b.number, b.id, .atTake⟩)
      staged := p.closer.staged.filter fun g => g.id != b.id } := by
    unfold takeBind enterCloser
    simp only [onCloser_fields]
    rw [hdropped]
    cases k <;> rfl
  rw [← hcloser]
  exact hblocks

/-- The take of a DUMP_WAIT pocket, block by block. -/
theorem takeDump_blocks (k : PocketId) (b : Book) (p : Part) : p.takeDump k b = { p with
    closer := { p.closer with
      state := .dump, current := some ⟨k, b.number⟩, deadline := some (p.msDeadline p.closer.windows.dump)
      pocketA := (p.takeDump k b).closer.pocketA, pocketB := (p.takeDump k b).closer.pocketB
      active := p.closer.active.filter fun a => a.id != b.id } } := by
  have hdropped := dropActive_closer b.id (p.movePocket k .dumping)
  rw [movePocket_closer] at hdropped
  have hblocks : p.takeDump k b = { p with closer := (p.takeDump k b).closer } := by
    cases k <;> rfl
  have hcloser : (p.takeDump k b).closer = { p.closer with
      state := .dump, current := some ⟨k, b.number⟩, deadline := some (p.msDeadline p.closer.windows.dump)
      pocketA := (p.takeDump k b).closer.pocketA, pocketB := (p.takeDump k b).closer.pocketB
      active := p.closer.active.filter fun a => a.id != b.id } := by
    unfold takeDump enterCloser
    simp only [onCloser_fields]
    rw [hdropped]
    cases k <;> rfl
  rw [← hcloser]
  exact hblocks

/-! ### The gate decision retaken in HOLD (R18) -/

/-- The sheet at the gate drops, and the line goes back to RUN. -/
def dropped (es fs : List Entry) (e : Entry) (x : Dest) (p : Part) : Part := { p with
  tracker := { p.tracker with
    gate := x
    queue := es ++ { e with
      stage := .dropping, destination := some x
      deadline := some ⟨.time, p.msDeadline p.timebase.settings.drop⟩ } :: fs }
  sup := { p.sup with line := .run, pocketWait := false } }

theorem withdrawWait_hold {p : Part} (h : p.sup.line = .hold) (hw : p.sup.pocketWait = true) :
    p.withdrawWait = { p with sup := { p.sup with line := .run, pocketWait := false } } := by
  unfold withdrawWait onSup
  dsimp only
  rw [if_pos hw, if_pos h]

theorem dropTo_hold {p : Part} {es fs : List Entry} {e : Entry} (hl : p.sup.line = .hold) (hw : p.sup.pocketWait = true)
    (hq : p.tracker.queue = es ++ e :: fs) (hes : ∀ x ∈ es, x.stage ≠ .atGate) (he : e.stage = .atGate) (x : Dest) :
    p.dropTo x = p.dropped es fs e x := by
  unfold dropTo
  rw [modifyOldest_append _ hq hes he]
  exact withdrawWait_hold hl hw

theorem raiseWait_hold {p : Part} (hl : p.sup.line = .hold) (hw : p.sup.pocketWait = true) : p.raiseWait = p := by
  have hsup : ∀ u : Supervisor, u.line = .hold → u.pocketWait = true →
      { u with pocketWait := true, line := if u.line = .run then .hold else u.line } = u := by
    rintro ⟨line, wait, _, _, _, _, _, _, _, _, _, _, _, _⟩ (rfl : line = .hold) (rfl : wait = true)
    rfl
  unfold raiseWait onSup
  dsimp only
  rw [hsup _ hl hw]

theorem gateDecide_none {p : Part} (h : p.hasStage .atGate = false) : p.gateDecide = p := by
  have ho : p.oldest .atGate = none := by
    unfold oldest
    rw [List.find?_eq_none]
    unfold hasStage at h
    rw [List.any_eq_false] at h
    exact h
  unfold gateDecide
  rw [ho]

theorem gateDecide_no_record {p : Part} {e : Entry} (ho : p.oldest .atGate = some e) (hb : p.book? e.book = none) :
    p.gateDecide = p.dropTo .reject := by
  unfold gateDecide
  rw [ho]
  dsimp only
  rw [hb]
  cases e.isVoid <;> rfl

theorem follow_decides {p : Part} (hl : p.sup.line = .hold) (hw : p.sup.pocketWait = true) :
    p.follow = p.gateDecide.tryTake := by
  unfold follow
  rw [if_pos ⟨hl, hw⟩]

theorem follow_takes {p : Part} (h : p.sup.line ≠ .hold ∨ p.sup.pocketWait = false ∨ p.hasStage .atGate = false) :
    p.follow = p.tryTake := by
  unfold follow
  split
  · next hc =>
    obtain ⟨hl, hw⟩ := hc
    have hnone : p.hasStage .atGate = false := by
      rcases h with h | h | h
      · exact absurd hl h
      · simp [hw] at h
      · exact h
    rw [gateDecide_none hnone]
  · rfl

end Part

/-- Settles O45: the two ends of a cycle; then the take from any part, and the decision that comes before it. -/
theorem closerCyclesEnd : Obligations.CloserCyclesEnd := by
  refine ⟨fun s p k b hp => ⟨fun hs => external_gives hp (if_neg hs), fun hs => external_gives hp (if_neg hs), ?_⟩,
    fun p => ?_⟩
  · intro hc hb idles
    refine ⟨fun hs => ⟨p.ejectBound, external_gives hp (if_pos hs), ?_⟩, fun hs => ?_⟩
    · have hbook (m : Nat) := Part.ejectBound_book? hc hb m
      have hpocket (j : PocketId) : p.ejectBound.pocket j = if j = k then ⟨.free, none⟩ else p.pocket j := by
        rw [Part.ejectBound_eq hc hb, Part.pocket_idleCloser, Part.pocket_setPocket]
        rfl
      refine ⟨?_, ?_, (hpocket k).trans (if_pos rfl), fun j hj => (hpocket j).trans (if_neg hj),
        (hbook _).trans (if_pos rfl), fun m hm => (hbook m).trans (if_neg hm), ?_, ?_⟩
      all_goals
        rw [Part.ejectBound_eq hc hb]
        cases k <;> rfl
    · intro c ends
      obtain ⟨hfound, hothers, htail, hend⟩ := Part.giveUpPocket_changed (p := p) (k := k)
        (f := fun b => { b with diverted := b.diverted + b.gathered }) hb fun _ => rfl
      have hexec : exec .dumpDone s = .next (s.withPart p.dumpEmptied.follow) := external_gives hp (if_pos hs)
      rw [Part.dumpEmptied_eq hc] at hexec
      have hmay : c.mayEnd = ends := Bool.and_true _
      have hpocket (j : PocketId) : (p.giveUpPocket k b.number fun b =>
          { b with diverted := b.diverted + b.gathered }).pocket j = if j = k then ⟨.free, none⟩ else p.pocket j := by
        rw [Part.giveUpPocket, Part.pocket_endTest, Part.pocket_updateBook, Part.pocket_setPocket]
      have hblocks := Part.giveUpPocket_blocks k b.number (fun b => { b with diverted := b.diverted + b.gathered }) p
      refine ⟨_, hexec, ?_, ?_, ?_, fun j hj => ?_, hfound.trans ?_, hothers, htail, hend.trans ?_⟩
      · rw [hblocks]
        rfl
      · exact Part.idleCloser_setPocket (Part.giveUpPocket_closer k b.number _ p)
      · rw [Part.pocket_idleCloser, hpocket, if_pos rfl]
      · rw [Part.pocket_idleCloser, hpocket, if_neg hj]
      · unfold Book.tested
        rw [hmay]
        rfl
      · rw [hmay]
  · intro due ready falling takes
    have htakes {r t : Part} (htime : r.timebase = p.timebase) (ht : t = r.tryTake) : takes r t := by
      refine ⟨fun h => ht.trans (Part.tryTake_not_ready h), fun k ks hready hr =>
        ⟨fun hd hf => ht.trans (Part.tryTake_falling hready hr hd hf), fun b hk hb => ⟨fun hs => ?_, fun hs hf => ?_⟩⟩⟩
      · have htake : t = (r.onCloser fun c => { c with requests := c.requests.tail }).takeBind k b := by
          rw [ht, Part.tryTake_takes hready hr (by simp [hs])]
          exact (Part.take_eq hk hb).1 hs
        have hblocks := Part.takeBind_blocks k b (r.onCloser fun c => { c with requests := c.requests.tail })
        have hpocket (j : PocketId) := Part.takeBind_pocket k j b (r.onCloser fun c => { c with requests := c.requests.tail })
        rw [← htake] at hblocks
        refine ⟨?_, ?_, ?_, fun j hj => ?_, ?_⟩
        · rw [hblocks]
          rfl
        · rw [hblocks]
          rfl
        · rw [htake, hpocket, if_pos rfl, ← hk]
          cases k <;> rfl
        · rw [htake, hpocket, if_neg hj]
          cases j <;> rfl
        · rw [hblocks]
          simp [Part.msDeadline, htime, hr, due]
      · have htake : t = (r.onCloser fun c => { c with requests := c.requests.tail }).takeDump k b := by
          rw [ht, Part.tryTake_takes hready hr fun _ => hf]
          exact (Part.take_eq hk hb).2 hs
        have hblocks := Part.takeDump_blocks k b (r.onCloser fun c => { c with requests := c.requests.tail })
        have hpocket (j : PocketId) := Part.takeDump_pocket k j b (r.onCloser fun c => { c with requests := c.requests.tail })
        rw [← htake] at hblocks
        refine ⟨?_, ?_, fun j hj => ?_, ?_⟩
        · rw [hblocks]
          rfl
        · rw [htake, hpocket, if_pos rfl, ← hk]
          cases k <;> rfl
        · rw [htake, hpocket, if_neg hj]
          cases j <;> rfl
        · rw [hblocks]
          simp [Part.msDeadline, htime, hr, due]
    refine ⟨fun h => htakes rfl (Part.follow_takes h), fun es fs e hl hw hq hes he => ?_⟩
    intro drops
    have ho := Part.oldest_append hq hes he
    have hfollow := Part.follow_decides hl hw
    have hdrop (x : Dest) : p.dropTo x = drops x p := Part.dropTo_hold hl hw hq hes he x
    refine ⟨fun h => ?_, fun b hv hb hs => ⟨fun hf => ?_, fun hf => ⟨fun k hk => ?_, fun k hk hfree hfirst => ?_,
      fun hk hnone => ?_⟩⟩⟩
    · have hdecide : p.gateDecide = drops .reject p := by
        rw [← hdrop]
        rcases h with h | h | h
        · exact Part.gateDecide_diverts ho (.inl h)
        · exact Part.gateDecide_no_record ho h
        · exact Part.gateDecide_diverts ho (.inr h)
      exact htakes rfl (by rw [hfollow, hdecide])
    · have hblocks := Part.spoil_blocks e.book .sheetFault false p
      have hspoil : (p.spoil e.book .sheetFault false).dropTo .reject = drops .reject (p.spoil e.book .sheetFault false) := by
        rw [Part.dropTo_hold (es := es) (fs := fs) (e := e) (by rw [hblocks]; exact hl) (by rw [hblocks]; exact hw)
          (by rw [hblocks]; exact hq) hes he, hblocks]
        rfl
      exact htakes (by rw [hblocks]) (by rw [hfollow, Part.gateDecide_ownFault ho hv hb hs hf, hspoil])
    · exact htakes rfl (by rw [hfollow, Part.gateDecide_holder ho hv hb hs hf hk, hdrop])
    · have hchoice : p.freePocket = some k := (p.freePocket_iff k).2 ⟨hfree, hfirst⟩
      have hgrant : (p.grant k e.book).dropTo k.dest = drops k.dest (p.grant k e.book) := by
        rw [Part.dropTo_hold (p := p.grant k e.book) (es := es) (fs := fs) (e := e) (by cases k <;> exact hl)
          (by cases k <;> exact hw) (by cases k <;> exact hq) hes he]
        cases k <;> rfl
      have hpocket (j : PocketId) := Part.grant_pocket k j e.book p
      refine ⟨p.grant k e.book, htakes (by cases k <;> rfl) ?_, by cases k <;> rfl, by cases k <;> rfl,
        (hpocket k).trans (if_pos rfl), fun j hj => (hpocket j).trans (if_neg hj), by cases k <;> rfl⟩
      rw [hfollow, Part.gateDecide_grants ho hv hb hs hf hk hchoice, hgrant]
    · have hfree : p.freePocket = none := by
        rw [Option.eq_none_iff_forall_ne_some]
        exact fun k h => hnone k ((p.freePocket_iff k).1 h).1
      exact htakes rfl (by rw [hfollow, Part.gateDecide_waits ho hv hb hs hf hk hfree, Part.raiseWait_hold hl hw])

end Sys2Proof.Machine
end

section
/-! SUPPORT. CLEAR FAULTS, block by block (R83, R100, R116, R147, R167). -/

namespace Sys2Proof.Machine

namespace Part

/-! ### The blocks -/

theorem clearPunch_idles {p : Part} (h : p.punch.state = .fault) (hu : p.punch.ramUpLevel = true) :
    p.clearPunch = { p with punch := { idled p.punch with health := Vector.replicate 49 .ok } } := if_pos ⟨h, hu⟩

theorem clearPunch_keeps {p : Part} (h : p.punch.state ≠ .fault ∨ p.punch.ramUpLevel = false) :
    p.clearPunch = { p with punch := { p.punch with health := Vector.replicate 49 .ok } } := by
  refine if_neg ?_
  rintro ⟨hs, hu⟩
  rcases h with h | h
  · exact h hs
  · have hup : p.punch.ramUpLevel = true := hu
    simp [h] at hup

theorem clearPunch_health (p : Part) : p.clearPunch.punch.health = Vector.replicate 49 .ok := by
  unfold clearPunch
  dsimp only
  split <;> rfl

theorem coilHealth_of_clear {p : Part} (h : p.punch.health = Vector.replicate 49 .ok) (c : Nat) : p.coilHealth c = .ok := by
  unfold coilHealth
  rw [h]
  simp

theorem faultedCoils_of_clear {p : Part} (h : p.punch.health = Vector.replicate 49 .ok) : p.faultedCoils = 0 := by
  unfold faultedCoils
  rw [h]
  rfl

theorem clearDrill_spindle (i : Idx4) (p : Part) : p.clearDrill.spindle i =
    if (p.spindle i).state = .fault ∧ (p.spindle i).upLevel = true then (p.spindle i).toIdle else p.spindle i :=
  Quad.get_map _ _ _

theorem clearDrill_drill (p : Part) :
    p.clearDrill.drill = { p.drill with spindles := p.clearDrill.drill.spindles } := rfl

/-- The leaves that a closer fault leaves in a pocket are lost (R116). -/
def loseGathered (b : Book) : Book := { b with lost := b.lost + b.gathered }

theorem clearCloser_kept {p : Part} (h : p.closer.state ≠ .fault) : p.clearCloser = p := if_neg h

theorem clearCloser_recovers {p : Part} {k : PocketId} {b : Book} (h : p.closer.state = .fault)
    (hc : p.closer.current = some ⟨k, b.number⟩) (hb : p.book? b.number = some b) :
    p.clearCloser = ((p.dropActive b.id).giveUpPocket k b.number loseGathered).idleCloser := by
  unfold clearCloser
  rw [if_pos h, hc]
  dsimp only
  rw [hb]
  rfl

/-! ### What follows, at the supervisor -/

/-- Only the line state and the pocket-wait condition differ. -/
def SupFollows (p q : Part) : Prop :=
  q.sup.haltRecord = p.sup.haltRecord ∧ q.sup.secondary = p.sup.secondary ∧ q.sup.notice = p.sup.notice

theorem supFollows_of_eq {p q : Part} (h : q.sup = p.sup) : p.SupFollows q := by
  unfold SupFollows
  rw [h]
  exact ⟨rfl, rfl, rfl⟩

theorem supFollows_raiseWait (p : Part) : p.SupFollows p.raiseWait := ⟨rfl, rfl, rfl⟩

theorem supFollows_dropTo {p q : Part} (h : q.sup = p.sup) (d : Dest) : p.SupFollows (q.dropTo d) := by
  have hsup : (q.dropTo d).sup = if q.sup.pocketWait then
      { q.sup with pocketWait := false, line := if q.sup.line = .hold then .run else q.sup.line } else q.sup := rfl
  unfold SupFollows
  rw [hsup, ← h]
  split <;> exact ⟨rfl, rfl, rfl⟩

theorem supFollows_gateDecide (p : Part) : p.SupFollows p.gateDecide := by
  unfold gateDecide
  split
  · exact supFollows_of_eq rfl
  · split
    · exact supFollows_dropTo rfl _
    · exact supFollows_dropTo rfl _
    · split
      · exact supFollows_dropTo rfl _
      split
      · exact supFollows_dropTo (by simp) _
      split
      · exact supFollows_dropTo rfl _
      · exact supFollows_dropTo (by simp) _
      · exact supFollows_raiseWait p

theorem supFollows_follow (p : Part) : p.SupFollows p.follow := by
  have hgate : p.SupFollows (if p.sup.line = .hold ∧ p.sup.pocketWait = true then p.gateDecide else p) := by
    split
    · exact supFollows_gateDecide p
    · exact supFollows_of_eq rfl
  obtain ⟨hrecord, hsecond, hnotice⟩ := hgate
  unfold follow SupFollows
  simp only [tryTake_frame]
  exact ⟨hrecord, hsecond, hnotice⟩

/-- The part after CLEAR FAULTS, before what follows in the same event. -/
def cleared (p : Part) : Part := p.clearPunch.clearDrill.clearCloser.clearFlags

theorem answerClearFaults_eq {t : Ticket} {c : Byte} (ht : t.body = [c]) (p : Part) : p.answerClearFaults t =
    ⟨p.cleared.follow, .ok, [byte p.cleared.follow.faultedCoils, byte p.cleared.follow.punch.state.code] ++
      p.cleared.follow.spindleStateBytes ++ [byte p.cleared.follow.closer.state.code] ++ p.cleared.follow.flagBytes⟩ := by
  unfold answerClearFaults
  rw [ht]
  rfl

theorem cleared_blocks (p : Part) : p.cleared = { p with
    punch := p.clearPunch.punch, drill := p.clearDrill.drill, closer := p.cleared.closer, books := p.cleared.books
    sup := { p.sup with powerUpFlag := false, driverHotFlag := p.sup.driverHotFlag && p.sup.driverHot }
    port := { p.port with linkError := false } } := by
  have hdrill : p.clearPunch.clearDrill.drill = p.clearDrill.drill := by simp [clearDrill]
  have hcleared (q : Part) : q.clearFlags = { q with
      sup := { q.sup with powerUpFlag := false, driverHotFlag := q.sup.driverHotFlag && q.sup.driverHot }
      port := { q.port with linkError := false } } := rfl
  have hclear (q : Part) : q.clearCloser = { q with closer := q.clearCloser.closer, books := q.clearCloser.books } := by
    obtain ⟨hport, hcmd, htracker, hpatterns, hpunch, hdrill, htime, hstations, hsup⟩ := clearCloser_frame q
    have heta (r : Part) : r = ⟨r.port, r.cmd, r.tracker, r.patterns, r.books, r.punch, r.drill, r.closer, r.timebase,
        r.stations, r.sup⟩ := rfl
    rw [heta q.clearCloser, hport, hcmd, htracker, hpatterns, hpunch, hdrill, htime, hstations, hsup]
  have hpunch (q : Part) : q.clearPunch = { q with punch := q.clearPunch.punch } := by
    unfold clearPunch
    dsimp only
    split <;> rfl
  unfold cleared
  rw [hcleared, hclear, hpunch]
  rfl

theorem cleared_closer (p : Part) : p.cleared.closer = p.clearPunch.clearDrill.clearCloser.closer ∧
    p.cleared.books = p.clearPunch.clearDrill.clearCloser.books := ⟨rfl, rfl⟩

end Part

/-- Settles O10: each block by its own lemma, and the reply from the part that stands after what follows. -/
theorem clearFaultsCompletes : Obligations.ClearFaultsCompletes := by
  intro s it p hex ht
  have hc : it.ticket.code = 20 := code_cons ht
  let r : Part := p.popCommand.clearPunch.clearDrill
  have hrc : r.closer = p.closer := by simp [r, Part.popCommand]
  have hrb : r.books = p.books := by simp [r, Part.popCommand]
  have hblocks := Part.cleared_blocks p.popCommand
  have hhealth : p.popCommand.cleared.punch.health = Vector.replicate 49 .ok := by
    rw [hblocks]
    exact Part.clearPunch_health _
  have hafter : p.popCommand.cleared.follow.punch.health = Vector.replicate 49 .ok := by
    rw [← hhealth]
    simp
  obtain ⟨hrecord, hsecond, hnotice⟩ := Part.supFollows_follow p.popCommand.cleared
  have hsup : p.popCommand.cleared.sup = { p.sup with
      powerUpFlag := false, driverHotFlag := p.sup.driverHotFlag && p.sup.driverHot } := by rw [hblocks]; rfl
  refine ⟨p.popCommand.cleared, ?_⟩
  intro t
  refine ⟨?_, ?_, fun c _ _ => ⟨Part.coilHealth_of_clear hhealth c, Part.coilHealth_of_clear hafter c⟩, fun h hu => ?_,
    fun h => ?_, fun i => ?_, fun h => ?_, fun cur b h hcur hb => ?_, by rw [hrecord, hsup], by rw [hsecond, hsup],
    by rw [hnotice, hsup], fun hl => ?_⟩
  · have hgives := clearFaultsRow.gives hex hc (Part.answerClearFaults_eq (p := p.popCommand) ht)
    rw [Part.faultedCoils_of_clear hafter] at hgives
    exact hgives
  · rw [hblocks]
    rfl
  · rw [hhealth, hblocks]
    exact congrArg Part.punch (Part.clearPunch_idles (p := p.popCommand) h hu)
  · rw [hhealth, hblocks]
    exact congrArg Part.punch (Part.clearPunch_keeps (p := p.popCommand) h)
  · have hspindle : p.popCommand.cleared.spindle i = p.popCommand.clearDrill.spindle i := by
      rw [hblocks]
      rfl
    rw [hspindle]
    exact Part.clearDrill_spindle i p.popCommand
  · have hkept : r.clearCloser = r := Part.clearCloser_kept (by rwa [hrc])
    exact ⟨(congrArg Part.closer hkept).trans hrc, (congrArg Part.books hkept).trans hrb⟩
  · intro c ends
    obtain ⟨k, n⟩ := cur
    obtain rfl : b.number = n := Part.book?_number hb
    have hrbook (m : Nat) : r.book? m = p.book? m := Part.book?_congr hrb m
    have hclear : r.clearCloser = ((r.dropActive b.id).giveUpPocket k b.number Part.loseGathered).idleCloser :=
      Part.clearCloser_recovers (by rw [hrc]; exact h) (by rw [hrc]; exact hcur) (by rw [hrbook]; exact hb)
    have hactive := Part.dropActive_closer b.id r
    have hdropped (m : Nat) : (r.dropActive b.id).book? m = p.book? m := hrbook m
    have hmay : c.mayEnd = ends := Bool.and_true _
    obtain ⟨hfound, hothers, htail, hend⟩ := Part.giveUpPocket_changed (p := r.dropActive b.id) (k := k)
      (f := Part.loseGathered) (by rw [hdropped]; exact hb) fun _ => rfl
    have hcloser : p.popCommand.cleared.closer = r.clearCloser.closer := rfl
    have hbooks : p.popCommand.cleared.books =
        ((r.dropActive b.id).giveUpPocket k b.number Part.loseGathered).books := by
      show r.clearCloser.books = _
      rw [hclear]
      rfl
    have hpocket (j : PocketId) : p.popCommand.cleared.pocket j = if j = k then ⟨.free, none⟩ else p.pocket j := by
      have hj : p.popCommand.cleared.pocket j = r.clearCloser.pocket j := Part.pocket_congr rfl rfl j
      rw [hj, hclear, Part.pocket_idleCloser, Part.giveUpPocket, Part.pocket_endTest, Part.pocket_updateBook,
        Part.pocket_setPocket]
      exact if_congr Iff.rfl rfl (Part.pocket_congr (by rw [hactive, hrc]) (by rw [hactive, hrc]) j)
    refine ⟨?_, (hpocket k).trans (if_pos rfl), fun j hj => (hpocket j).trans (if_neg hj), ?_, fun m hm => ?_, ?_, ?_⟩
    · have hidle := Part.idleCloser_setPocket (Part.giveUpPocket_closer k b.number Part.loseGathered (r.dropActive b.id))
      rw [← hclear, hactive, hrc] at hidle
      exact hidle
    · rw [hbooks, htail]
      exact congrArg BookTable.tailBook hrb
    · rw [Part.book?_congr hbooks, hothers m hm, hdropped]
    · rw [Part.book?_congr hbooks, hfound]
      refine congrArg some ?_
      unfold Book.tested
      exact if_congr (by rw [← hmay]; rfl) rfl rfl
    · rw [hbooks, hend, show (r.dropActive b.id).books.endOrder = p.books.endOrder from congrArg BookTable.endOrder hrb]
      refine congrArg _ ?_
      exact if_congr (by rw [← hmay]; rfl) rfl rfl
  · have hline : p.popCommand.cleared.sup.line = p.sup.line := by rw [hsup]
    show p.popCommand.cleared.follow.sup.line = _
    rw [Part.follow_outside_hold (by rw [hline]; exact hl)]
    simp only [Part.tryTake_frame]
    exact hline

end Sys2Proof.Machine
end

section
/-! SUPPORT. The execution of a RESET (R183, R184), and the drill as a halt or a link reset leaves it (R96). -/

namespace Sys2Proof.Machine

namespace Part

/-! ### The drill at a halt, spindle by spindle -/

theorem drawnUp_cycleOver (p : Part) : p.drawnUp.cycleOver = (p.drill.cycle != [] && p.drill.cycle.all fun i =>
    ((p.spindle i).drawn p.timebase.millis).state != .retract) := by
  have hwork (x : Spindle) : (!(x.drawn p.timebase.millis).working) = ((x.drawn p.timebase.millis).state != .retract) := by
    rw [Bool.eq_iff_iff, Bool.not_eq_true', ← Bool.not_eq_true, Spindle.drawn_working, bne_iff_ne]
  unfold cycleOver
  refine congrArg₂ _ rfl (congrArg₂ List.all rfl (funext fun i => ?_))
  rw [spindle_drawnUp, hwork]

theorem haltDrill_spindle (i : Idx4) (p : Part) : p.haltDrill.spindle i =
    if p.drawnUp.cycleOver = true ∧ ((p.spindle i).drawn p.timebase.millis).state = .done then
      ((p.spindle i).drawn p.timebase.millis).toIdle
    else (p.spindle i).drawn p.timebase.millis := by
  cases hover : p.drawnUp.cycleOver with
  | false => simp [haltDrill_going hover, spindle_drawnUp]
  | true =>
    have hquad : p.haltDrill.spindle i = ((p.spindle i).drawn p.timebase.millis).rested := by
      rw [haltDrill_over hover]
      exact (Quad.get_map _ _ _).trans (congrArg _ (Quad.get_map _ _ _))
    rw [hquad]
    exact if_congr (by simp) rfl rfl

theorem haltDrill_drill (p : Part) : p.haltDrill.drill = { p.drill with
    spindles := p.haltDrill.drill.spindles, held := false, pendingSetup := false
    cycle := if p.drawnUp.cycleOver then [] else p.drill.cycle
    faulted := if p.drawnUp.cycleOver then [] else p.drill.faulted } := by
  cases hover : p.drawnUp.cycleOver with
  | false => rw [haltDrill_going hover]; rfl
  | true => rw [haltDrill_over hover]; rfl

/-- The punch and the drill at a halt do not look at the line. -/
theorem haltPunch_congr {p q : Part} (h : q.punch = p.punch) (ht : q.timebase = p.timebase) :
    q.haltPunch.punch = p.haltPunch.punch := by
  cases hs : p.punch.state with
  | idle | ramReturn | fault => rw [haltPunch_kept (p := p) (by simp [hs]), haltPunch_kept (by simp [h, hs]), h]
  | engage => rw [haltPunch_engage (p := p) hs, haltPunch_engage (by rw [h]; exact hs), h]
  | strike =>
    rw [haltPunch_strike (p := p) hs, haltPunch_strike (by rw [h]; exact hs), h, msDeadline, ht]
    split <;> rfl

theorem haltDrill_congr {p q : Part} (h : q.drill = p.drill) (ht : q.timebase = p.timebase) :
    q.haltDrill.drill = p.haltDrill.drill := by
  rw [haltDrill_eq, haltDrill_eq p]
  refine endDrillCycle_congr ?_
  unfold drawnUp
  rw [h, ht]

/-! ### The link reset, block by block -/

theorem linkReset_punch (p : Part) : p.linkReset.punch = p.haltPunch.punch := by
  have hsup : p.resetSup.haltPunch.punch = p.haltPunch.punch := haltPunch_congr rfl rfl
  simp [linkReset, resetTracker, resetBooks, resetCloser, hsup]

theorem linkReset_drill (p : Part) : p.linkReset.drill = p.haltDrill.drill := by
  have hsup : p.resetSup.haltPunch.haltDrill.drill = p.haltDrill.drill :=
    haltDrill_congr (by simp [resetSup]) (by simp [resetSup])
  simp [linkReset, resetTracker, resetBooks, resetCloser, hsup]

theorem linkReset_closer_eq (p : Part) : p.linkReset.closer = { p.closer with
    state := .idle, current := none, pocketA := ⟨.free, none⟩, pocketB := ⟨.free, none⟩, requests := []
    deadline := none, active := none, staged := none } := by
  have hcloser : p.linkReset.closer = p.resetSup.haltPunch.haltDrill.resetCloser.closer :=
    finishAll_closer _ (o := .flushed) (by simp) _
  have hhalt : p.resetSup.haltPunch.haltDrill.closer = p.closer := by simp [resetSup]
  rw [hcloser]
  unfold resetCloser
  simp only [onCloser_fields]
  rw [hhalt]

theorem linkReset_tailBook (p : Part) : p.linkReset.books.tailBook = none := rfl

theorem resetBook_eq {b : Book} (h : b.state ≠ .ended) : resetBook b = { b with
    state := .ended, generation := b.generation + 1, outcome := some .spoiled, expected := b.admitted
    spoilReason := some (b.spoilReason.getD .linkReset), pocket := none
    lost := if b.pocket = none then b.lost else b.lost + b.gathered
    gathered := if b.pocket = none then b.gathered else 0 } := by
  unfold resetBook
  rw [if_neg h]
  cases hp : b.pocket with
  | none => simp [Book.enter, hp]
  | some k => simp [Book.enter]

/-! ### The completion point -/

/-- The link reset of a RESET, with its completion point taken. -/
def resetting (it : Item) (p : Part) : Part :=
  p.linkReset.onCmd fun c => { c with resetting := some (resetPoint it p p.linkReset) }

theorem startReset_eq (it : Item) (p : Part) :
    p.startReset it = if (p.resetting it).resetOver then (p.resetting it).completeReset else p.resetting it := rfl

theorem resetting_over (it : Item) (p : Part) : (p.resetting it).resetOver =
    (!((p.linkReset.tracker.queue.getLast?.map Entry.id).any fun i => p.linkReset.tracker.queue.any fun e => e.id == i) &&
    !(p.linkReset.books.endOrder.getLast?.any fun i => p.linkReset.books.records.any fun b => b.id == i)) := rfl

theorem resetting_not_over {it : Item} {p : Part} (h : p.linkReset.tracker.queue ≠ [] ∨
    ∃ i, p.linkReset.books.endOrder.getLast? = some i ∧ ∃ b ∈ p.linkReset.books.records, b.id = i) :
    (p.resetting it).resetOver = false := by
  rw [resetting_over]
  rcases h with h | ⟨i, hi, b, hb, hid⟩
  · obtain ⟨e, he⟩ := Option.ne_none_iff_exists'.1 (mt List.getLast?_eq_none_iff.1 h)
    have hmem : (p.linkReset.tracker.queue.any fun x => x.id == e.id) = true :=
      List.any_eq_true.2 ⟨e, List.mem_of_getLast? he, by simp⟩
    simp [he, hmem]
  · have hmem : (p.linkReset.books.records.any fun b => b.id == i) = true :=
      List.any_eq_true.2 ⟨b, hb, by simp [hid]⟩
    simp [hi, hmem]

theorem resetting_over_of_empty {it : Item} {p : Part} (hq : p.linkReset.tracker.queue = [])
    (hb : p.linkReset.books.records = []) : (p.resetting it).resetOver = true := by
  rw [resetting_over, hq, hb]
  simp

theorem completeReset_eq {it : Item} {rest : List Item} {r : ResetProgress} {p : Part} (h : p.cmd = ⟨it :: rest, some r⟩) :
    p.completeReset = { p with cmd := ⟨rest, none⟩ }.placeReply it .ok [byte r.flushed, byte r.ended] := by
  unfold completeReset popCommand onCmd
  rw [h]
  rfl

theorem resetting_cmd {it : Item} {rest : List Item} {p : Part} (h : p.cmd.list = it :: rest) :
    (p.resetting it).cmd = ⟨it :: rest, some (resetPoint it p p.linkReset)⟩ := by
  have hkeep : p.linkReset.cmd.list = it :: rest := by simp [h]
  exact congrArg (fun l => CommandUnit.mk l (some (resetPoint it p p.linkReset))) hkeep

/-- But for its reply and its place in the list, a RESET is its link reset. -/
theorem startReset_blocks {it : Item} {rest : List Item} {p : Part} (h : p.cmd.list = it :: rest) : p.startReset it =
    { p.linkReset with cmd := (p.startReset it).cmd, port := (p.startReset it).port } := by
  rw [startReset_eq]
  split
  · rw [completeReset_eq (resetting_cmd h)]
    unfold placeReply
    split <;> rfl
  · rfl

end Part

/-- A RESET of the right length at the head is the execution of a link reset. -/
theorem exec_reset {s : State} {it : Item} (hex : s.toPart.executable = some it) (hc : it.ticket.code = 21)
    (hl : it.ticket.body.length = 1) : exec .reset s = .next (s.withPart (s.toPart.startReset it)) := by
  have hrow : exec .reset s = request (· == 21) s := rfl
  have hhead : s.toPart.executeHead = s.toPart.startReset it := by
    unfold Part.executeHead
    rw [hex]
    exact if_pos ⟨hc, hl⟩
  rw [hrow, request_next hex (by simp [hc]), hhead]

/-- Settles O11: the blocks of the link reset, and the completion point passed at once or to be passed later. -/
theorem resetExecutes : Obligations.ResetExecutes := by
  intro s it p hex ht due ends newlyEnded endOrder idle drawn cycleEnds
  obtain ⟨rest, hlist, hres, -⟩ := Part.executable_spec hex
  have hexec := exec_reset hex (code_cons ht) (by rw [ht]; rfl)
  obtain ⟨hrecords, hend⟩ := Part.linkReset_books p
  have hblocks := Part.startReset_blocks hlist
  have hover : p.drawnUp.cycleOver = cycleEnds := p.drawnUp_cycleOver
  have hpunch : (p.startReset it).punch = p.haltPunch.punch := by rw [hblocks]; exact Part.linkReset_punch p
  have hdrill : (p.startReset it).drill = p.haltDrill.drill := by rw [hblocks]; exact Part.linkReset_drill p
  refine ⟨p.startReset it, hexec, by rw [hblocks]; exact Part.linkReset_sup p, ?_, fun n hn => ⟨?_, ?_⟩, ?_, fun h => ?_,
    fun h => ?_, fun h hu => ?_, fun i => ?_, ?_, by rw [hblocks]; exact Part.linkReset_closer_eq p, ?_, ?_, fun h => ?_,
    fun hq hb => ?_⟩
  · have hdone : (fun e : Entry => if e.stage != .done then e.finish .flushed else e) =
        fun e => if e.stage = .done then e else e.finish .flushed := by
      funext e
      by_cases h : e.stage = .done <;> simp [h]
    rw [hblocks, ← hdone]
    exact Part.linkReset_tracker p
  · rw [hblocks]
    exact Part.linkReset_pattern? p n
  · have hcount : (fun e : Entry => !e.isVoid && e.stage != .done && e.pattern == n) =
        fun e => e.stage != .done && !e.isVoid && e.pattern == n := by
      funext e
      rw [Bool.and_comm (!e.isVoid)]
    rw [hblocks, hcount]
    exact Part.linkReset_useCount p hn
  · have hends : ends = Part.resetBook := by
      funext b
      by_cases h : b.state = .ended
      · rw [Part.resetBook_of_ended h]
        exact if_pos h
      · rw [Part.resetBook_eq h]
        exact if_neg h
    have hbooks : (p.startReset it).books =
        ⟨p.linkReset.books.records, p.linkReset.books.endOrder, p.linkReset.books.tailBook⟩ := by rw [hblocks]
    rw [hbooks, hrecords, hend, hends, Part.linkReset_tailBook]
  · rw [hpunch, Part.haltPunch_kept h]
  · rw [hpunch, Part.haltPunch_withdrawn h]
    rfl
  · rw [hpunch, Part.haltPunch_returns h hu]
    rfl
  · have hspindle : (p.startReset it).spindle i = p.haltDrill.spindle i := congrArg (fun d : Drill => d.spindles.get i) hdrill
    rw [hspindle, Part.haltDrill_spindle, hover]
    rfl
  · have hhalt := p.haltDrill_drill
    rw [← hdrill, hover] at hhalt
    exact hhalt
  · rw [hblocks]
    simp
  · rw [hblocks]
    simp
  · have hids (b : Book) : (Part.resetBook b).id = b.id := (Part.resetBook_fields b).2.1
    have hpending : p.startReset it = p.resetting it := by
      rw [Part.startReset_eq, if_neg]
      rw [Bool.not_eq_true]
      refine Part.resetting_not_over ?_
      rcases h with h | h | ⟨i, b, hi, hb⟩
      · left
        rw [Part.linkReset_tracker]
        simpa using h
      · right
        obtain ⟨b, hb⟩ := Option.ne_none_iff_exists'.1 (mt List.getLast?_eq_none_iff.1 h)
        obtain ⟨hmem, -⟩ := List.mem_filter.1 (List.mem_of_getLast? hb)
        refine ⟨b.id, ?_, Part.resetBook b, ?_, hids b⟩
        · rw [hend, List.getLast?_append, List.getLast?_map, hb]
          rfl
        · rw [hrecords]
          exact List.mem_map_of_mem hmem
      · right
        have hmem : b ∈ p.books.records := List.mem_of_find?_eq_some hb
        have hid : b.id = i := by simpa using List.find?_some hb
        refine ⟨i, by rw [hend]; exact hi, Part.resetBook b, ?_, (hids b).trans hid⟩
        rw [hrecords]
        exact List.mem_map_of_mem hmem
    rw [hpending]
    refine ⟨?_, Part.linkReset_port p⟩
    rw [Part.resetting_cmd hlist, ← hlist]
    have hpoint : Part.resetPoint it p p.linkReset = ⟨p.tracker.queue.getLast?.map Entry.id, endOrder.getLast?, it.addressed,
        p.tracker.queue.countP (fun e => e.stage != .done), newlyEnded.length⟩ := by
      unfold Part.resetPoint
      rw [hend, Part.linkReset_tracker, List.getLast?_map, Option.map_map, List.countP_eq_length_filter (l := p.books.records)]
      refine congrArg (fun o => ResetProgress.mk o _ _ _ _) (congrArg (fun f => Option.map f _) (funext fun e => ?_))
      simp only [Function.comp_apply]
      split <;> rfl
    rw [hpoint]
  · have hover : (p.resetting it).resetOver = true := by
      refine Part.resetting_over_of_empty ?_ ?_
      · rw [Part.linkReset_tracker, hq]
        rfl
      · rw [hrecords, hb]
        rfl
    have hpoint : (Part.resetPoint it p p.linkReset).flushed = 0 ∧ (Part.resetPoint it p p.linkReset).ended = 0 := by
      constructor
      · show p.tracker.queue.countP _ = 0
        rw [hq]
        rfl
      · show p.books.records.countP _ = 0
        rw [hb]
        rfl
    obtain ⟨hflushed, hended⟩ := hpoint
    have hport : (p.resetting it).port = { p.port with linkError := false } := Part.linkReset_port p
    rw [Part.startReset_eq, if_pos hover, Part.completeReset_eq (Part.resetting_cmd hlist), hflushed, hended]
    refine ⟨?_, ?_⟩
    · simp [hlist, hres]
    · unfold Part.placeReply
      split
      · simp only [Part.onPort_fields, hport]
        rfl
      · exact hport

end Sys2Proof.Machine
end

section
/-! SUPPORT. The admission of a sheet ticket: its fields, the sequence check and the book checks (R4 to R7, R32 to R35). -/

namespace Sys2Proof.Machine

/-! ### The fields of a sheet ticket (R6, R188) -/

/-- A byte of a body as a number, a missing one as 0. -/
def byteAt (l : List Byte) (i : Nat) : Nat := (l.getD i 0).toNat

/-- A field of two bytes, 0 where either is missing. -/
def halfAt (l : List Byte) (i : Nat) : Nat := if i + 1 < l.length then 256 * byteAt l i + byteAt l (i + 1) else 0

theorem sheetFields_eq (l : List Byte) : sheetFields l = {
    sequence := BitVec.ofNat 16 (halfAt l 0), book := halfAt l 2, leaf := byteAt l 4, role := byteAt l 5
    face := byteAt l 6, pattern := byteAt l 7
    header := if l.length = 12 then some ⟨byteAt l 8, byteAt l 9, byteAt l 10, byteAt l 11⟩ else none
    lengthOk := l.length == 8 || l.length == 12 } := rfl

/-- A field is out of its range, or the length is neither of the two. -/
def Wrong (l : List Byte) : Prop :=
  (l.length ≠ 8 ∧ l.length ≠ 12) ∨ halfAt l 2 = 0 ∨ byteAt l 4 = 0 ∨ 60 < byteAt l 4 ∨ 63 < byteAt l 7 ∨
    byteAt l 5 ∉ [1, 2, 3] ∨ byteAt l 6 ∉ [1, 2] ∨
    (l.length = 12 ∧ (byteAt l 8 < 2 ∨ 60 < byteAt l 8 ∨ byteAt l 9 < 1 ∨ 4 < byteAt l 9 ∨ byteAt l 10 < 6 ∨
      60 < byteAt l 10 ∨ byteAt l 11 ∉ [1, 2]))

/-- A first leaf without a header, or a header on another leaf. -/
def Headerless (l : List Byte) : Prop := (byteAt l 4 = 1 ∧ l.length ≠ 12) ∨ (byteAt l 4 ≠ 1 ∧ l.length = 12)

theorem role_known (n : Nat) : (Role.ofCode? n).isNone = true ↔ n ∉ [1, 2, 3] := by
  unfold Role.ofCode?
  split
  · simp
  · simp
  · simp
  · next h1 h2 h3 => simp; exact ⟨h1, h2, h3⟩

theorem face_known (n : Nat) : (Face.ofCode? n).isNone = true ↔ n ∉ [1, 2] := by
  unfold Face.ofCode?
  split
  · simp
  · simp
  · next h1 h2 => simp; exact ⟨h1, h2⟩

/-- The header of a body is in its ranges, where there is one. -/
def headerInRange (f : SheetFields) : Bool :=
  match f.header with
  | none => true
  | some h => inRange 2 60 h.expected && inRange 1 4 h.wireClass && inRange 6 60 h.loopCount && inRange 1 2 h.hanger

theorem headerInRange_iff (l : List Byte) : headerInRange (sheetFields l) = false ↔ l.length = 12 ∧
    (byteAt l 8 < 2 ∨ 60 < byteAt l 8 ∨ byteAt l 9 < 1 ∨ 4 < byteAt l 9 ∨ byteAt l 10 < 6 ∨ 60 < byteAt l 10 ∨
      byteAt l 11 ∉ [1, 2]) := by
  rw [sheetFields_eq]
  unfold headerInRange
  dsimp only
  by_cases h : l.length = 12
  · rw [if_pos h]
    simp only [inRange, Bool.and_eq_false_iff, decide_eq_false_iff_not, h, true_and, List.mem_cons, List.not_mem_nil,
      or_false]
    omega
  · rw [if_neg h]
    simp [h]

theorem fieldCheck_eq (f : SheetFields) : fieldCheck f =
    if (!f.lengthOk || f.book == 0 || !inRange 1 60 f.leaf || !inRange 0 63 f.pattern || (Role.ofCode? f.role).isNone ||
      (Face.ofCode? f.face).isNone || !headerInRange f) = true then some .badField
    else if ((f.leaf == 1) != f.header.isSome) = true then some .noHeader
    else none := rfl

theorem inRange_eq_false {lo hi n : Nat} : inRange lo hi n = false ↔ n < lo ∨ hi < n := by
  rw [← Bool.not_eq_true, inRange_iff]
  omega

theorem wrong_iff (l : List Byte) : (!(sheetFields l).lengthOk || (sheetFields l).book == 0 ||
    !inRange 1 60 (sheetFields l).leaf || !inRange 0 63 (sheetFields l).pattern ||
    (Role.ofCode? (sheetFields l).role).isNone || (Face.ofCode? (sheetFields l).face).isNone ||
    !headerInRange (sheetFields l)) = true ↔ Wrong l := by
  simp only [Bool.or_eq_true, Bool.not_eq_true', role_known, face_known, headerInRange_iff, inRange_eq_false]
  simp only [sheetFields_eq, Bool.or_eq_false_iff, beq_eq_false_iff_ne, beq_iff_eq]
  unfold Wrong
  have hleaf : byteAt l 4 < 1 ↔ byteAt l 4 = 0 := Nat.lt_one_iff
  simp only [hleaf, Nat.not_lt_zero, false_or, or_assoc]

theorem headerless_iff (l : List Byte) :
    (((sheetFields l).leaf == 1) != (sheetFields l).header.isSome) = true ↔ Headerless l := by
  rw [sheetFields_eq]
  unfold Headerless
  dsimp only
  by_cases h4 : byteAt l 4 = 1 <;> by_cases h : l.length = 12 <;> simp [h4, h]

theorem fieldCheck_wrong {l : List Byte} (h : Wrong l) : fieldCheck (sheetFields l) = some .badField := by
  rw [fieldCheck_eq, if_pos ((wrong_iff l).2 h)]

theorem fieldCheck_headerless {l : List Byte} (h : ¬Wrong l) (hh : Headerless l) :
    fieldCheck (sheetFields l) = some .noHeader := by
  rw [fieldCheck_eq, if_neg (mt (wrong_iff l).1 h), if_pos ((headerless_iff l).2 hh)]

theorem fieldCheck_passes {l : List Byte} (h : ¬Wrong l) (hh : ¬Headerless l) : fieldCheck (sheetFields l) = none := by
  rw [fieldCheck_eq, if_neg (mt (wrong_iff l).1 h), if_neg (mt (headerless_iff l).1 hh)]

theorem wrong_of_short {l : List Byte} (h : l.length < 2) : Wrong l := .inl ⟨by omega, by omega⟩

namespace Part

/-! ### The part in which a ticket is judged -/

/-- The ticket taken from the buffer and the next sequence expected, in a part with the books of another. -/
def arrived (rest : List RxItem) (next : Option Half) (p r : Part) : Part :=
  { r with port := { p.port with rxBuf := rest }, tracker := { p.tracker with expected := next } }

/-- The cut-short test finds a tail book of another number, with leaves still to come (R32). -/
theorem cutShort_eq (n : Nat) (p : Part) : p.cutShort n = (match p.books.tailBook with
    | none => p
    | some m => if m ≠ n ∧ (p.book? m).any (fun b => b.admitted < b.expected) = true then p.spoil m .shortBook true
      else p) := by
  unfold cutShort
  cases p.books.tailBook with
  | none => rfl
  | some m =>
    dsimp only
    cases p.book? m with
    | none => simp
    | some b => simp

theorem cutShort_same {n : Nat} {p : Part} (h : p.books.tailBook = some n) : p.cutShort n = p := by
  rw [cutShort_eq, h]
  exact if_neg fun hc => hc.1 rfl

theorem cutShort_cases (n : Nat) (p : Part) :
    p.cutShort n = p ∨ ∃ m, p.books.tailBook = some m ∧ p.cutShort n = p.spoil m .shortBook true := by
  rw [cutShort_eq]
  cases h : p.books.tailBook with
  | none => exact .inl rfl
  | some m =>
    dsimp only
    split
    · exact .inr ⟨m, rfl, rfl⟩
    · exact .inl rfl

theorem cutShort_blocks (n : Nat) (p : Part) :
    p.cutShort n = { p with books := (p.cutShort n).books, closer := (p.cutShort n).closer } := by
  rcases cutShort_cases n p with h | ⟨m, -, h⟩
  · rw [h]
  · rw [h]
    exact spoil_blocks m .shortBook true p

theorem cutShort_tailBook (n : Nat) (p : Part) : (p.cutShort n).books.tailBook = p.books.tailBook := by
  rcases cutShort_cases n p with h | ⟨m, -, h⟩
  · rw [h]
  · rw [h, spoil_tailBook]

theorem spoil_arrived (rest : List RxItem) (next : Option Half) (n : Nat) (why : SpoilReason) (lower : Bool) (p : Part) :
    (arrived rest next p p).spoil n why lower = arrived rest next p (p.spoil n why lower) := by
  refine (spoil_booksInto (arrived rest next p p) n why lower p).trans ?_
  rw [spoil_blocks n why lower p]
  rfl

theorem cutShort_arrived (rest : List RxItem) (next : Option Half) (n : Nat) (p : Part) :
    (arrived rest next p p).cutShort n = arrived rest next p (p.cutShort n) := by
  rw [cutShort_eq, cutShort_eq n p]
  have htail : (arrived rest next p p).books.tailBook = p.books.tailBook := rfl
  rw [htail]
  cases p.books.tailBook with
  | none => rfl
  | some m =>
    dsimp only
    rw [spoil_arrived]
    exact (apply_ite (arrived rest next p) _ _ _).symm

/-- The tracker with the ticket's entry at its tail. -/
def entered (t : Ticket) (f : SheetFields) (w : Option VoidReason) (next : Option Half) (k : Tracker) : Tracker :=
  { k with
    expected := next
    nextId := k.nextId + 1
    queue := k.queue ++ [
      { id := k.nextId, ticket := t, sequence := f.sequence, book := f.book, leaf := f.leaf, role := f.role
        face := f.face, pattern := f.pattern, voidReason := w }] }

theorem pushEntry_void (t : Ticket) (f : SheetFields) (w : VoidReason) (rest : List RxItem) (next : Option Half)
    (p r : Part) : (arrived rest next p r).pushEntry t f (some w) =
      { r with port := { p.port with rxBuf := rest }, tracker := entered t f (some w) next p.tracker } := rfl

/-- What admission leaves of a part whose entry counts into its book. -/
theorem pushEntry_counts {t : Ticket} {f : SheetFields} {rest : List RxItem} {next : Option Half} {p r q : Part}
    (hq : q = { arrived rest next p r with books := q.books }) (hr : r.patterns = p.patterns) :
    q.pushEntry t f none = { r with
      port := { p.port with rxBuf := rest }, tracker := entered t f none next p.tracker
      patterns := (q.pushEntry t f none).patterns, books := q.books } ∧
    ∀ n < 64, (q.pushEntry t f none).pattern? n = p.pattern? n ∧
      (q.pushEntry t f none).useCount n = p.useCount n + if n = f.pattern then 1 else 0 := by
  have hpatterns : q.patterns = p.patterns := by rw [hq]; exact hr
  refine ⟨?_, fun n hn => ⟨?_, ?_⟩⟩
  · have hpush : q.pushEntry t f none = { q with
        tracker := { q.tracker with
          queue := q.tracker.queue ++ [q.newEntry t f none], nextId := q.tracker.nextId + 1 }
        patterns := (q.pushEntry t f none).patterns } := rfl
    rw [hpush, hq]
    rfl
  · rw [pushEntry_pattern?, pattern?_congr hpatterns]
  · rw [pushEntry_useCount _ _ _ _ hn, useCount_congr hpatterns]
    simp

theorem continueBook_blocks (f : SheetFields) (p : Part) :
    p.continueBook f = { p with books := (p.continueBook f).books } := by
  unfold continueBook
  dsimp only
  rw [endTest_blocks]
  rfl

/-! ### Admission, once the ticket has passed the sequence check -/

theorem admitFields_wrong {t : Ticket} {f : SheetFields} {w : VoidReason} (h : fieldCheck f = some w) (p : Part) :
    p.admitFields t f = p.pushEntry t f (some w) := by
  unfold admitFields
  rw [h]

section
variable {t : Ticket} {f : SheetFields} {p r : Part} (hf : fieldCheck f = none)
include hf

theorem admitFields_void {w : VoidReason} (h : (p.cutShort f.book).judgeBook f = (r, .void w)) :
    p.admitFields t f = r.pushEntry t f (some w) := by
  unfold admitFields
  rw [hf]
  dsimp only
  rw [h]

theorem admitFields_continues (h : (p.cutShort f.book).judgeBook f = (r, .continues)) :
    p.admitFields t f = (r.continueBook f).pushEntry t f none := by
  unfold admitFields
  rw [hf]
  dsimp only
  rw [h]

theorem admitFields_opens {h : BookHeader} (hj : (p.cutShort f.book).judgeBook f = (r, .opens h)) :
    p.admitFields t f = (r.openBook f h).pushEntry t f none := by
  unfold admitFields
  rw [hf]
  dsimp only
  rw [hj]

end

/-! ### The book checks -/

theorem tailRecord_some {n : Nat} {b : Book} {p : Part} (ht : p.books.tailBook = some n) (hb : p.book? n = some b) :
    p.tailRecord n = some b := by
  unfold tailRecord
  rw [if_pos ht, hb]

theorem tailRecord_none {n : Nat} {p : Part} (ht : p.books.tailBook ≠ some n) : p.tailRecord n = none := if_neg ht

theorem judgeBook_continues {f : SheetFields} {b : Book} {p : Part} (ht : p.tailRecord f.book = some b)
    (hn : b.admitted < b.expected ∧ f.leaf = b.lastLeaf + 1) (hl : (p.pattern? f.pattern).isSome = true) :
    p.judgeBook f = (p, .continues) := by
  unfold judgeBook judgeTail
  rw [ht]
  dsimp only
  rw [if_pos hn, if_pos hl]

theorem judgeBook_leafOrder {f : SheetFields} {b : Book} {p : Part} (ht : p.tailRecord f.book = some b)
    (hn : ¬(b.admitted < b.expected ∧ f.leaf = b.lastLeaf + 1)) :
    p.judgeBook f = (p.spoil f.book .voidLeaf true, .void .leafOrder) := by
  unfold judgeBook judgeTail
  rw [ht]
  dsimp only
  rw [if_neg hn]

theorem judgeBook_header {f : SheetFields} {h : BookHeader} {p : Part} (ht : p.tailRecord f.book = none)
    (hh : f.header = some h) : p.judgeBook f = (p, p.judgeOpening f h) := by
  unfold judgeBook
  rw [ht, hh]

theorem judgeBook_no_header {f : SheetFields} {p : Part} (ht : p.tailRecord f.book = none) (hh : f.header = none) :
    p.judgeBook f = (p, .void (if (p.book? f.book).isSome then .leafOrder else .noBook)) := by
  unfold judgeBook
  rw [ht, hh]

theorem admitHead_passes {p : Part} {t : Ticket} {rest : List RxItem} (hb : p.port.rxBuf = ⟨t, false⟩ :: rest)
    (h : t.body.length < 2 ∨ p.sequenceFails (sheetFields t.body).sequence = none) :
    p.admitHead = p.popRx.admitTicket t := by
  unfold admitHead
  rw [hb]
  dsimp only
  rcases h with h | h
  · rw [if_pos h]
  · rw [h, ite_self]

theorem sequenceFails_none {x : Half} {p : Part} (h : p.tracker.expected = some x ∨
    (p.tracker.expected = none ∧ ∀ e, p.tracker.queue.getLast? = some e → e.sequence ≠ x)) : p.sequenceFails x = none := by
  unfold sequenceFails
  rcases h with h | ⟨h, hlast⟩
  · rw [h]
    exact if_pos rfl
  · rw [h]
    cases hl : p.tracker.queue.getLast? with
    | none => rfl
    | some e => exact if_neg (hlast e hl)

theorem isDue_admitSheet {p : Part} {t : Ticket} {rest : List RxItem} (hb : p.port.rxBuf = ⟨t, false⟩ :: rest)
    (hk : t.kind = 1) (ha : p.addressedHere t = true) (hl : p.tracker.queue.length < 24) :
    p.isDue .admitSheet = true := by
  have hspace : p.hasSpace .sheet = true := decide_eq_true hl
  have hclass : p.classable = some .sheet := by
    unfold classable
    rw [hb]
    dsimp only
    rw [classOf_sheet hk ha, if_pos hspace]
  unfold isDue
  rw [hclass]
  rfl

end Part

end Sys2Proof.Machine
end

section
/-! SUPPORT. SHEET_ADMITTED: the cases of the book checks put together (R4 to R7). -/

namespace Sys2Proof.Machine

namespace Part

theorem arrived_eq {t : Ticket} {rest : List RxItem} {p : Part} (hb : p.port.rxBuf = ⟨t, false⟩ :: rest)
    (next : Option Half) : p.popRx.setExpected next = arrived rest next p p := by
  have htail : p.popRx.setExpected next = arrived p.port.rxBuf.tail next p p := rfl
  rw [htail, hb]
  rfl

theorem spoil_wireClass (n : Nat) (why : SpoilReason) (lower : Bool) (p : Part) :
    (p.spoil n why lower).closer.wireClass = p.closer.wireClass := by
  cases hb : p.book? n with
  | none => rw [spoil_none _ _ hb]
  | some b =>
    have fresh (hs : b.state = .opened ∨ b.state = .filled ∨ b.state = .ready) :
        (p.spoil n why lower).closer.wireClass = p.closer.wireClass := by
      rw [spoil_fresh_eq _ _ hb hs, endTest_blocks, takeSpoiled_closer_eq]
    cases hs : b.state with
    | opened => exact fresh (.inl hs)
    | filled => exact fresh (.inr (.inl hs))
    | ready => exact fresh (.inr (.inr hs))
    | closing => rw [spoil_closer_kept _ _ hb (.inl hs)]
    | spoiled => rw [spoil_closer_kept _ _ hb (.inr hs)]
    | ended => rw [spoil_ended_eq _ _ hb hs]

theorem judgeOpening_known {f : SheetFields} {h : BookHeader} {p : Part} (hb : (p.book? f.book).isSome = true) :
    p.judgeOpening f h = .void .duplicateBook := if_pos hb

section
variable {f : SheetFields} {h : BookHeader} {p : Part} (hb : ¬(p.book? f.book).isSome = true)
include hb

theorem judgeOpening_full (hr : 12 ≤ p.books.records.length) : p.judgeOpening f h = .void .tableFull := by
  unfold judgeOpening
  rw [if_neg hb, if_pos (show Config.bookRecords ≤ p.books.records.length from hr)]

variable (hr : p.books.records.length < 12)
include hr

theorem judgeOpening_wire (hw : ¬(p.closer.wireClass = h.wireClass ∧ p.closer.wireClass ≠ 0)) :
    p.judgeOpening f h = .void .wireMismatch := by
  unfold judgeOpening
  rw [if_neg hb, if_neg (show ¬Config.bookRecords ≤ p.books.records.length from Nat.not_le.2 hr), if_pos (by tauto)]

variable (hw : p.closer.wireClass = h.wireClass ∧ p.closer.wireClass ≠ 0)
include hw

theorem judgeOpening_noPattern (hl : ¬(p.pattern? f.pattern).isSome = true) : p.judgeOpening f h = .void .noPattern := by
  unfold judgeOpening
  rw [if_neg hb, if_neg (show ¬Config.bookRecords ≤ p.books.records.length from Nat.not_le.2 hr), if_neg (by tauto),
    if_pos (by simpa using hl)]

theorem judgeOpening_opens (hl : (p.pattern? f.pattern).isSome = true) : p.judgeOpening f h = .opens h := by
  unfold judgeOpening
  rw [if_neg hb, if_neg (show ¬Config.bookRecords ≤ p.books.records.length from Nat.not_le.2 hr), if_neg (by tauto),
    if_neg (by rw [Option.isNone_iff_eq_none]; exact Option.isSome_iff_ne_none.1 hl)]

end

theorem continueBook_book? {f : SheetFields} {b : Book} {p : Part} (hb : p.book? f.book = some b) (m : Nat) :
    (p.continueBook f).book? m = if m = f.book then some (countContinuation f.leaf b) else p.book? m := by
  have hread : (p.continueBook f).book? m = (p.updateBook f.book (countContinuation f.leaf)).book? m := by
    unfold book?
    rw [continueBook_books hb]
  rw [hread, book?_updateBook _ _ _ fun x => (countContinuation_fields f.leaf x).1]
  split
  · next h => rw [h, hb]; rfl
  · rfl

end Part

/-- Settles O27: the fields and their check; then the tail book, an opening, or neither, judged after the cut-short
test in the part that has taken the ticket. -/
theorem sheetAdmittedCompletes : Obligations.SheetAdmittedCompletes := by
  intro s t rest p f hb hk hd h1 h31 hl hseq entered admits void counts cut loaded b half wrong headerless
  let next : Option Half := if t.body.length < 2 then none else some (f.sequence + 1)
  have hhere : p.addressedHere t = true := (Part.addressedHere_iff t p).2 ⟨hd, h1, h31⟩
  have hpass : t.body.length < 2 ∨ p.sequenceFails f.sequence = none := hseq.imp_right Part.sequenceFails_none
  have hexec : exec .sheetAdmitted s = .next (s.withPart (((Part.arrived rest next p p).admitFields t f).follow)) := by
    rw [← Part.arrived_eq hb]
    exact internal_gives (d := .admitSheet) (Part.isDue_admitSheet hb hk hhere hl) (Part.admitHead_passes hb hpass)
  have hvoid {w : VoidReason} {r : Part}
      (h : (Part.arrived rest next p p).admitFields t f = (Part.arrived rest next p r).pushEntry t f (some w)) :
      void w r := by
    rw [h, Part.pushEntry_void] at hexec
    exact hexec
  have hcut : p.cutShort f.book = cut := Part.cutShort_eq f.book p
  have hcutHere : (Part.arrived rest next p p).cutShort f.book = Part.arrived rest next p cut := by
    rw [Part.cutShort_arrived, hcut]
  have hcutBlocks : cut = { p with books := cut.books, closer := cut.closer } := hcut ▸ Part.cutShort_blocks f.book p
  have hcutTail : cut.books.tailBook = p.books.tailBook := hcut ▸ Part.cutShort_tailBook f.book p
  have hcutPatterns : cut.patterns = p.patterns := by rw [hcutBlocks]
  have hcutLength : cut.books.records.length = p.books.records.length := by
    rcases Part.cutShort_cases f.book p with h | ⟨m, -, h⟩
    · rw [← hcut, h]
    · rw [← hcut, h, Part.spoil_length]
  have hcutWire : cut.closer.wireClass = p.closer.wireClass := by
    rw [← hcut]
    rcases Part.cutShort_cases f.book p with h | ⟨m, -, h⟩
    · rw [h]
    · rw [h, Part.spoil_wireClass]
  refine ⟨rfl, fieldCheck_wrong, fieldCheck_headerless, fieldCheck_passes,
    fun h => fieldCheck_wrong (wrong_of_short h), fun w hw => hvoid (Part.admitFields_wrong hw _),
    fun c hf htail hc => ?_, fun h hf hh htail => ?_, fun hf hh htail => ?_⟩
  · have hsame : cut = p := hcut ▸ Part.cutShort_same htail
    rw [hsame] at hcutHere
    have hrec : (Part.arrived rest next p p).tailRecord f.book = some c := Part.tailRecord_some htail hc
    have hspoil (w : VoidReason) (hj : (Part.arrived rest next p p).judgeBook f =
        ((Part.arrived rest next p p).spoil f.book .voidLeaf true, .void w)) : void w (p.spoil f.book .voidLeaf true) := by
      refine hvoid ((Part.admitFields_void hf (by rw [hcutHere]; exact hj)).trans ?_)
      rw [Part.spoil_arrived]
    refine ⟨fun hn hload => ?_, fun hn hload => hspoil .noPattern ?_, fun hn => hspoil .leafOrder ?_⟩
    · have hj := Part.judgeBook_continues (f := f) hrec hn hload
      rw [← hcutHere] at hj
      have hadmit := Part.admitFields_continues (t := t) hf hj
      rw [hcutHere] at hadmit
      obtain ⟨hq, huse⟩ := Part.pushEntry_counts (t := t) (f := f) (rest := rest) (next := next) (p := p) (r := p)
        (Part.continueBook_blocks f (Part.arrived rest next p p)) rfl
      have hbooks := Part.continueBook_books (f := f) (p := Part.arrived rest next p p) hc
      have hbook (m : Nat) := Part.continueBook_book? (f := f) (p := Part.arrived rest next p p) hc m
      rw [hadmit] at hexec
      have hpushed : (((Part.arrived rest next p p).continueBook f).pushEntry t f none).books =
          ((Part.arrived rest next p p).continueBook f).books := by rw [hq]
      have hfound (m : Nat) : (((Part.arrived rest next p p).continueBook f).pushEntry t f none).book? m =
          if m = f.book then some (Part.countContinuation f.leaf c) else p.book? m :=
        (Part.book?_congr hpushed m).trans (hbook m)
      refine ⟨_, ⟨hexec, hq.trans (by rw [hpushed]; rfl), huse⟩, ?_, ?_, fun m hm => (hfound m).trans (if_neg hm),
        (hfound f.book).trans (if_pos rfl)⟩
      · rw [hpushed, hbooks, htail]
      · rw [hpushed, hbooks]
        rfl
    · have hnone : p.pattern? f.pattern = none := Option.not_isSome_iff_eq_none.1 hload
      exact Part.judgeBook_continuation_noPattern hrec hn.1 hn.2 hnone
    · exact Part.judgeBook_leafOrder hrec hn
  · have hrec : (Part.arrived rest next p cut).tailRecord f.book = none :=
      Part.tailRecord_none (by rw [← hcutTail] at htail; exact htail)
    have hj := Part.judgeBook_header hrec hh
    intro mounted known
    have hopen (w : VoidReason) (hw : (Part.arrived rest next p cut).judgeOpening f h = .void w) : void w cut := by
      rw [hw] at hj
      exact hvoid (Part.admitFields_void hf (by rw [hcutHere]; exact hj))
    have hroom : p.books.records.length < 12 → (Part.arrived rest next p cut).books.records.length < 12 := fun hr => by
      rw [← hcutLength] at hr
      exact hr
    have hmount : mounted → (Part.arrived rest next p cut).closer.wireClass = h.wireClass ∧
        (Part.arrived rest next p cut).closer.wireClass ≠ 0 := fun hm => by
      rw [show (Part.arrived rest next p cut).closer.wireClass = p.closer.wireClass from hcutWire]
      exact hm
    have hpattern : (Part.arrived rest next p cut).pattern? f.pattern = p.pattern? f.pattern :=
      Part.pattern?_congr hcutPatterns f.pattern
    refine ⟨fun hk => hopen _ (Part.judgeOpening_known hk), fun hk hr => hopen _ (Part.judgeOpening_full hk ?_),
      fun hk hr hm => hopen _ (Part.judgeOpening_wire hk (hroom hr) ?_),
      fun hk hr hm hload => hopen _ (Part.judgeOpening_noPattern hk (hroom hr) (hmount hm) (by rw [hpattern]; exact hload)),
      fun hk hr hm hload => ?_⟩
    · rw [← hcutLength] at hr
      exact hr
    · rw [show (Part.arrived rest next p cut).closer.wireClass = p.closer.wireClass from hcutWire]
      exact hm
    · rw [Part.judgeOpening_opens (p := Part.arrived rest next p cut) hk (hroom hr) (hmount hm) (by rw [hpattern]; exact hload), ← hcutHere] at hj
      have hadmit := Part.admitFields_opens (t := t) hf hj
      rw [hcutHere] at hadmit
      rw [hadmit] at hexec
      obtain ⟨hq, huse⟩ := Part.pushEntry_counts (t := t) (f := f) (rest := rest) (next := next) (p := p) (r := cut)
        (q := (Part.arrived rest next p cut).openBook f h) rfl hcutPatterns
      have hpushed : (((Part.arrived rest next p cut).openBook f h).pushEntry t f none).books =
          ((Part.arrived rest next p cut).openBook f h).books := by rw [hq]
      exact ⟨_, ⟨hexec, hq.trans (by rw [hpushed]; rfl), huse⟩, hpushed⟩
  · have hrec : (Part.arrived rest next p cut).tailRecord f.book = none :=
      Part.tailRecord_none (by rw [← hcutTail] at htail; exact htail)
    have hj := Part.judgeBook_no_header hrec hh
    have hread : (Part.arrived rest next p cut).book? f.book = cut.book? f.book := rfl
    rw [hread] at hj
    refine ⟨fun hk => ?_, fun hk => ?_⟩
    · rw [hk] at hj
      exact hvoid (Part.admitFields_void hf (by rw [hcutHere]; exact hj))
    · rw [if_pos (Option.isSome_iff_ne_none.2 hk)] at hj
      exact hvoid (Part.admitFields_void hf (by rw [hcutHere]; exact hj))

end Sys2Proof.Machine
end

section
/-! SUPPORT. A gap in the sequence (R5): the cause, and the ticket turned into a report. -/

namespace Sys2Proof.Machine

/-- A body that leaves room for the eleven bytes of a report keeps them all. -/
theorem turn_eq {t : Ticket} (h : t.body.length ≤ 239) (unit : Nat) : t.turn unit = { t with
    kind := 2
    body := t.body ++ [byte unit, 4, 9, 0, 0, 0, 0, 0, 0, 0, byte t.body.length] } := by
  have hkept (l : List Byte) (hl : l.length = 10) : t.body.take (Config.maxBody - (l.length + 1)) = t.body :=
    List.take_of_length_le (by rw [hl]; exact h)
  unfold Ticket.turn withReport
  dsimp only
  rw [hkept _ rfl, List.append_assoc]
  rfl

namespace Part

/-! ### The space that a turned ticket needs does not change with the halt -/

theorem eligible_congr {p q : Part} (h : q.tracker.queue.map Entry.id = p.tracker.queue.map Entry.id) (it : Item) :
    q.eligible it = p.eligible it := by
  have hany (r : Part) (i : Nat) : (r.tracker.queue.any fun e => e.id == i) = (r.tracker.queue.map Entry.id).any (· == i) := by
    rw [List.any_map]
    rfl
  unfold eligible
  cases it.mark with
  | none => rfl
  | some i =>
    dsimp only
    rw [hany q, hany p, h]

theorem outFree_congr {p q : Part} (hport : q.port = p.port) (hcmd : q.cmd = p.cmd)
    (hq : q.tracker.queue.map Entry.id = p.tracker.queue.map Entry.id) : q.outFree = p.outFree := by
  have hhead : q.readyHead = p.readyHead := by
    unfold readyHead
    rw [hcmd]
    simp only [eligible_congr hq]
  unfold outFree slotsUsed
  rw [hhead, hport, hcmd]

theorem raise_queue_ids (c : Cause) (w : Option Nat) (p : Part) :
    (p.raise c w).tracker.queue.map Entry.id = p.tracker.queue.map Entry.id := by
  by_cases h : p.sup.line = .halt
  · rw [raise_in_halt h, noteSecondary_eq]
  · obtain ⟨htracker, -⟩ := enterHalt_blocks c w p
    rw [raise_outside_halt h, htracker, stopAll_tracker, List.map_map]
    refine congrArg (fun f => p.tracker.queue.map f) (funext fun e => ?_)
    simp only [Function.comp_apply]
    split <;> rfl

theorem sequenceFails_some {x y : Half} {p : Part} (h : (p.tracker.expected = some x ∧ x ≠ y) ∨
    (p.tracker.expected = none ∧ x = y + 1 ∧ ∃ e, p.tracker.queue.getLast? = some e ∧ e.sequence = y)) :
    p.sequenceFails y = some x := by
  unfold sequenceFails
  rcases h with ⟨h, hne⟩ | ⟨h, rfl, e, hl, rfl⟩
  · rw [h]
    exact if_neg hne
  · rw [h]
    dsimp only
    rw [hl]
    exact if_pos rfl

theorem admitHead_turns {p : Part} {t : Ticket} {rest : List RxItem} {x : Half}
    (hb : p.port.rxBuf = ⟨t, false⟩ :: rest) (hl : 2 ≤ t.body.length)
    (h : p.sequenceFails (sheetFields t.body).sequence = some x) : p.admitHead = p.turnHead t x := by
  unfold admitHead
  rw [hb]
  dsimp only
  rw [if_neg (by omega), h]

/-- Where the ticket goes, once the cause is raised. -/
theorem turnHead_eq {p q : Part} {t : Ticket} {rest : List RxItem} {x : Half}
    (hb : p.port.rxBuf = ⟨t, false⟩ :: rest)
    (hq : q = p.raise (.sequenceGap x (sheetFields t.body).sequence) none) :
    p.turnHead t x =
      { q with
        tracker := { q.tracker with expected := none }
        port := if 1 ≤ p.outFree then
            { p.port with rxBuf := rest, outList := p.port.outList ++ [⟨t.turn p.port.unitAddress, none⟩] }
          else { p.port with rxBuf := ⟨t.turn p.port.unitAddress, true⟩ :: rest } } := by
  have hport : q.port = p.port := by simp [hq]
  have htail : q.port.rxBuf.tail = rest := by rw [hport, hb]; rfl
  have hfree : (q.setExpected none).outFree = p.outFree :=
    outFree_congr (q := q.setExpected none) hport (by simp [hq, setExpected]) (hq ▸ raise_queue_ids _ _ _)
  have hturn : p.turnHead t x = if 1 ≤ (q.setExpected none).outFree then
      (q.setExpected none).popRx.placeTurned (t.turn p.port.unitAddress)
    else (q.setExpected none).onPort fun y => { y with rxBuf := ⟨t.turn p.port.unitAddress, true⟩ :: y.rxBuf.tail } := by
    rw [hq]
    rfl
  rw [hturn, hfree, ← hport]
  split
  · rw [← htail]
    rfl
  · rw [← htail]
    rfl

end Part

/-- Settles O28: the cause is raised first; the ticket is turned in the list or in its place. -/
theorem sequenceGapTurnsTicket : Obligations.SequenceGapTurnsTicket := by
  intro s t rest x p y hb hk hd h1 h31 hl h2 h239 hseq report q turns
  have hhere : p.addressedHere t = true := (Part.addressedHere_iff t p).2 ⟨hd, h1, h31⟩
  have hreport : t.turn p.port.unitAddress = report := turn_eq h239 _
  have hexec : exec .sheetAdmitted s = .next (s.withPart (p.turnHead t x)) :=
    internal_gives (d := .admitSheet) (Part.isDue_admitSheet hb hk hhere hl)
      (Part.admitHead_turns hb h2 (Part.sequenceFails_some hseq))
  rw [Part.turnHead_eq (q := q) hb rfl, hreport] at hexec
  refine ⟨fun hf => ?_, fun hf => ?_, ?_, by simp [q], Part.raise_line _ _ _, fun h => Part.raise_cause h _ _,
    fun h hs => ?_, fun h hs => ?_⟩
  · rw [if_pos hf] at hexec
    exact hexec
  · rw [if_neg (by omega)] at hexec
    exact hexec
  · have hids := congrArg List.length (Part.raise_queue_ids (.sequenceGap x y) none p)
    simpa using hids
  · show (p.raise _ _).sup.secondary = _
    rw [Part.raise_in_halt h, Part.noteSecondary_first hs]
  · show (p.raise _ _).sup = _
    rw [Part.raise_in_halt h, Part.noteSecondary_more hs]

end Sys2Proof.Machine
end

section
/-! SUPPORT. A guard opens (R73, R74, R79, R95, R114, R144). -/

namespace Sys2Proof.Machine

namespace Part

/-- The part with a station's guard open. -/
def guardOpened (x : Station) (p : Part) : Part :=
  { p with stations := { p.stations with guardsOpen := p.stations.guardsOpen.set true x } }

theorem openGuardOf_shut {x : Station} {p : Part} (h : p.stations.guardsOpen.has x = false) :
    p.openGuardOf x = match p.sup.line with
      | .run | .hold => if p.stations.activation.has x || p.cycleRunning x then (p.guardOpened x).raise (.guardOpen x) none
        else p.guardOpened x
      | .idle => (p.guardOpened x).guardInIdle x
      | .halt => p.guardOpened x := by
  unfold openGuardOf
  rw [if_neg (by simp [h])]
  rfl

theorem openGuardOf_running {x : Station} {p : Part} (h : p.stations.guardsOpen.has x = false)
    (hl : p.sup.line = .run ∨ p.sup.line = .hold) : p.openGuardOf x =
      if p.stations.activation.has x || p.cycleRunning x then (p.guardOpened x).raise (.guardOpen x) none
      else p.guardOpened x := by
  rw [openGuardOf_shut h]
  rcases hl with hl | hl <;> rw [hl]

theorem openGuardOf_idle {x : Station} {p : Part} (h : p.stations.guardsOpen.has x = false) (hl : p.sup.line = .idle) :
    p.openGuardOf x = (p.guardOpened x).guardInIdle x := by
  rw [openGuardOf_shut h, hl]

theorem openGuardOf_halt {x : Station} {p : Part} (h : p.stations.guardsOpen.has x = false) (hl : p.sup.line = .halt) :
    p.openGuardOf x = p.guardOpened x := by
  rw [openGuardOf_shut h, hl]

theorem guardOpened_has (x : Station) (p : Part) : (p.guardOpened x).stations.guardsOpen.has x = true := by
  cases x <;> rfl

theorem effective_open {x : Station} {p : Part} (h : p.stations.guardsOpen.has x = true) : p.effective x = false := by
  simp [effective, h]

/-! ### The punch -/

/-- A cycle's end, before the pending setup is taken. -/
def cycleLet (p : Part) : Part :=
  { p with
    punch := idled p.punch
    tracker := if p.punch.held then
        (p.releasePunch (if p.punch.faulted = [] ∧ p.punch.brokenOff = false then .struck else .partStruck) none
          p.punch.faulted).tracker
      else p.tracker }

theorem endRamCycle_eq (p : Part) : p.endRamCycle = p.cycleLet.pendingPunch := by
  unfold endRamCycle cycleLet
  cases p.punch.held <;> rfl

theorem pendingPunch_idle {p : Part} (h : p.punch.state = .idle) : p.pendingPunch =
    if p.punch.pendingSetup then { p with punch := { p.punch with pendingSetup := false } }.strikeSetup else p :=
  if_congr (by simp [h]) rfl rfl

theorem enterReturn_up {p : Part} (h : p.punch.ramUpLevel = true) : p.enterReturn = p.endRamCycle :=
  (if_pos h).trans (endRamCycle_entering _ _ p)

theorem enterReturn_down {p : Part} (h : p.punch.ramUpLevel = false) : p.enterReturn = { p with
    punch := { p.punch with state := .ramReturn, deadline := some (p.msDeadline p.punch.returnWindow) } } :=
  if_neg (by simp [h])

/-- The stroke is broken off. -/
def strokeBroken (p : Part) : Part := p.onPunch fun x => { x with brokenOff := true }

theorem punchGuardInIdle_engage {p : Part} (h : p.punch.state = .engage) :
    p.punchGuardInIdle = p.endEngagement .stationOff [] := by
  unfold punchGuardInIdle
  rw [h]

theorem punchGuardInIdle_strike {p : Part} (h : p.punch.state = .strike) :
    p.punchGuardInIdle = p.strokeBroken.enterReturn := by
  unfold punchGuardInIdle
  rw [h]
  rfl

theorem punchGuardInIdle_else {p : Part} (h : p.punch.state ≠ .engage) (h' : p.punch.state ≠ .strike) :
    p.punchGuardInIdle = p := by
  unfold punchGuardInIdle
  split
  · next hs => exact absurd hs h
  · next hs => exact absurd hs h'
  · rfl

theorem punchGuardInIdle_frame (p : Part) :
    p.punchGuardInIdle.stations = p.stations ∧ p.punchGuardInIdle.sup = p.sup := by
  cases hs : p.punch.state with
  | engage =>
    rw [punchGuardInIdle_engage hs, endEngagement_eq]
    exact ⟨rfl, rfl⟩
  | strike =>
    rw [punchGuardInIdle_strike hs]
    cases hu : p.strokeBroken.punch.ramUpLevel with
    | true =>
      rw [enterReturn_up hu, endRamCycle_eq, pendingPunch_idle rfl]
      split
      · simp [cycleLet, strokeBroken]
      · exact ⟨rfl, rfl⟩
    | false =>
      rw [enterReturn_down hu]
      exact ⟨rfl, rfl⟩
  | idle | ramReturn | fault =>
    rw [punchGuardInIdle_else (by simp [hs]) (by simp [hs])]
    exact ⟨rfl, rfl⟩

theorem endEngagement_blocks (w : SkipReason) (l : List Nat) (p : Part) : p.endEngagement w l =
    { p with punch := idled p.punch, tracker := (p.endEngagement w l).tracker } := by
  rw [endEngagement_eq]

theorem cycleLet_append {p : Part} {es fs : List Entry} {e : Entry} (hh : p.punch.held = true)
    (hb : p.punch.brokenOff = true) (hq : p.tracker.queue = es ++ e :: fs) (hes : ∀ x ∈ es, x.stage ≠ .atPunch)
    (he : e.stage = .atPunch) : p.cycleLet.tracker = { p.tracker with queue := es ++ { e with
      stage := .toDrill, punchResult := some .partStruck, punchSkip := none, faultedPins := p.punch.faulted
      deadline := some ⟨.position, p.posDeadline p.timebase.settings.mid⟩ } :: fs } := by
  unfold cycleLet
  dsimp only
  rw [if_pos hh, releasePunch_append hq hes he, if_neg (by simp [hb])]

/-! ### The drill -/

end Part

namespace Spindle

/-- A spindle at work as a cycle that is broken off leaves it (R95). -/
def brokenOff (now : Count) (x : Spindle) : Spindle :=
  if x.state = .plunge ∨ x.state = .dwell then
    if x.upLevel = true then { x with state := .done, passes := 0, timedOut := true, deadline := none }
    else { x with
      state := .retract, passes := 0, timedOut := true
      deadline := some (now + BitVec.ofNat 32 x.profile.retractWindow) }
  else if x.state = .retract then { x with passes := 0, timedOut := true }
  else x

theorem breakOff_eq (now : Count) (x : Spindle) : x.breakOff now = x.brokenOff now := by
  unfold breakOff brokenOff
  cases h : x.state with
  | plunge | dwell => simp only [reduceCtorEq, or_false, or_true, if_true, drawUp_eq]; rfl
  | retract | idle | done | fault => simp

theorem breakOff_working (now : Count) (x : Spindle) :
    (x.brokenOff now).working = true ↔ (x.brokenOff now).state = .retract := by
  unfold brokenOff
  rw [working_eq_true]
  split
  · split <;> simp
  · next h =>
    split
    · next hr => simp [hr]
    · tauto

/-- To break a spindle off again changes nothing. -/
theorem brokenOff_twice (now : Count) (x : Spindle) : (x.brokenOff now).brokenOff now = x.brokenOff now := by
  by_cases h : x.state = .plunge ∨ x.state = .dwell
  · have hx : x.brokenOff now = if x.upLevel = true then
        { x with state := .done, passes := 0, timedOut := true, deadline := none }
      else { x with
        state := .retract, passes := 0, timedOut := true
        deadline := some (now + BitVec.ofNat 32 x.profile.retractWindow) } := if_pos h
    rw [hx]
    split <;> rfl
  · have hx : x.brokenOff now = if x.state = .retract then { x with passes := 0, timedOut := true } else x := if_neg h
    rw [hx]
    split
    · next hr =>
      unfold brokenOff
      rw [if_neg h]
      exact if_pos hr
    · next hr =>
      unfold brokenOff
      rw [if_neg h, if_neg hr]

end Spindle

namespace Part

/-- One spindle of the cycle is broken off and joins the faulted list. -/
def breakSpindle (p : Part) (i : Idx4) : Part :=
  (p.addFaulted i).onSpindle i (Spindle.brokenOff p.timebase.millis)

theorem breakSpindle_spindle (p : Part) (i j : Idx4) : (p.breakSpindle i).spindle j =
    if j = i then (p.spindle i).brokenOff p.timebase.millis else p.spindle j :=
  spindle_withSpindle i j _ (p.addFaulted i)

theorem breakAll_spindle (l : List Idx4) (p : Part) (j : Idx4) : (l.foldl breakSpindle p).spindle j =
    if j ∈ l then (p.spindle j).brokenOff p.timebase.millis else p.spindle j := by
  induction l generalizing p with
  | nil => simp
  | cons i l ih =>
    have htime : (p.breakSpindle i).timebase = p.timebase := rfl
    rw [List.foldl_cons, ih, htime, breakSpindle_spindle]
    by_cases hi : j = i
    · subst hi
      simp [Spindle.brokenOff_twice]
    · simp [hi]

theorem breakAll_faulted (l : List Idx4) (p : Part) (j : Idx4) :
    j ∈ (l.foldl breakSpindle p).drill.faulted ↔ j ∈ p.drill.faulted ∨ j ∈ l := by
  induction l generalizing p with
  | nil => simp
  | cons i l ih =>
    rw [List.foldl_cons, ih, show (p.breakSpindle i).drill.faulted = (p.addFaulted i).drill.faulted from rfl,
      mem_faulted_addFaulted, List.mem_cons]
    tauto

theorem breakAll_blocks (l : List Idx4) (p : Part) : l.foldl breakSpindle p = { p with drill := { p.drill with
    spindles := (l.foldl breakSpindle p).drill.spindles, faulted := (l.foldl breakSpindle p).drill.faulted } } := by
  induction l generalizing p with
  | nil => rfl
  | cons i l ih =>
    rw [List.foldl_cons]
    exact ih (p.breakSpindle i)

/-- The cycle broken off, before its end test. -/
def cycleBroken (p : Part) : Part := (p.drill.cycle.filter fun i => (p.spindle i).working).foldl breakSpindle p

theorem drillGuardInIdle_eq {p : Part} (h : p.drill.cycle ≠ []) : p.drillGuardInIdle = p.cycleBroken.afterSpindle := by
  have hfold (now : Count) (l : List Idx4) (q : Part) (hq : q.timebase.millis = now) :
      l.foldl (fun q i => (q.addFaulted i).onSpindle i (Spindle.breakOff now)) q = l.foldl breakSpindle q := by
    induction l generalizing q with
    | nil => rfl
    | cons i l ih =>
      have hstep : (q.addFaulted i).onSpindle i (Spindle.breakOff now) = q.breakSpindle i := by
        rw [breakSpindle, ← funext (Spindle.breakOff_eq q.timebase.millis), hq]
      rw [List.foldl_cons, List.foldl_cons, hstep]
      exact ih _ hq
  unfold drillGuardInIdle
  dsimp only
  rw [if_neg h, hfold _ _ _ rfl]
  rfl

theorem drillGuardInIdle_none {p : Part} (h : p.drill.cycle = []) : p.drillGuardInIdle = p := if_pos h

theorem cycleBroken_spindle (p : Part) (i : Idx4) : p.cycleBroken.spindle i =
    if i ∈ p.drill.cycle then (p.spindle i).brokenOff p.timebase.millis else p.spindle i := by
  unfold cycleBroken
  rw [breakAll_spindle]
  simp only [List.mem_filter]
  by_cases hi : i ∈ p.drill.cycle
  · cases hw : (p.spindle i).working with
    | true => simp [hi]
    | false =>
      have hnot := mt (Spindle.working_eq_true (x := p.spindle i)).2 (by simp [hw])
      push Not at hnot
      simp [Spindle.brokenOff, hnot]
  · simp [hi]

theorem cycleBroken_blocks (p : Part) : p.cycleBroken = { p with drill := { p.drill with
    spindles := p.cycleBroken.drill.spindles, faulted := p.cycleBroken.drill.faulted } } := breakAll_blocks _ p

theorem cycleBroken_faulted (p : Part) (i : Idx4) : i ∈ p.cycleBroken.drill.faulted ↔
    i ∈ p.drill.faulted ∨ (i ∈ p.drill.cycle ∧ (p.spindle i).working = true) := by
  unfold cycleBroken
  rw [breakAll_faulted, List.mem_filter]

theorem cycleBroken_cycle (p : Part) : p.cycleBroken.drill.cycle = p.drill.cycle := by
  rw [cycleBroken_blocks]

theorem drillGuardInIdle_frame (p : Part) :
    p.drillGuardInIdle.stations = p.stations ∧ p.drillGuardInIdle.sup = p.sup := by
  by_cases h : p.drill.cycle = []
  · rw [drillGuardInIdle_none h]
    exact ⟨rfl, rfl⟩
  · rw [drillGuardInIdle_eq h, cycleBroken_blocks]
    simp

/-- The cycle goes on while a spindle of it is in RETRACT. -/
theorem cycleBroken_over {p : Part} (h : p.drill.cycle ≠ []) : p.cycleBroken.cycleOver =
    p.drill.cycle.all fun i => (p.cycleBroken.spindle i).state != .retract := by
  have hall : (p.drill.cycle.all fun i => !(p.cycleBroken.spindle i).working) =
      p.drill.cycle.all fun i => (p.cycleBroken.spindle i).state != .retract := by
    rw [Bool.eq_iff_iff, List.all_eq_true, List.all_eq_true]
    refine forall₂_congr fun i hi => ?_
    rw [cycleBroken_spindle, if_pos hi, Bool.not_eq_true', ← Bool.not_eq_true, Spindle.breakOff_working, bne_iff_ne]
  unfold cycleOver
  rw [cycleBroken_cycle, hall]
  simp [h]

theorem drillGuardInIdle_going {p : Part} (h : p.drill.cycle ≠ []) (hg : p.cycleBroken.cycleOver = false) :
    p.drillGuardInIdle = p.cycleBroken := by
  have hcycle : p.cycleBroken.drill.cycle ≠ [] := by rwa [cycleBroken_cycle]
  have hworks : ∃ i ∈ p.cycleBroken.drill.cycle, (p.cycleBroken.spindle i).working = true := by
    by_contra hnone
    push Not at hnone
    have hover := cycleOver_eq_true.2 ⟨hcycle, fun i hi => Bool.eq_false_of_not_eq_true (hnone i hi)⟩
    rw [hg] at hover
    simp at hover
  obtain ⟨i, hi, hw⟩ := hworks
  rw [drillGuardInIdle_eq h, afterSpindle_working hi hw]

theorem drillGuardInIdle_over {p : Part} (h : p.drill.cycle ≠ []) (ho : p.cycleBroken.cycleOver = true) :
    p.drillGuardInIdle = if p.drill.pendingSetup = true ∧ p.cycleBroken.endDrillCycle.drillBusy = false then
        (p.cycleBroken.endDrillCycle.onDrill fun d => { d with pendingSetup := false }).drillSetup
      else p.cycleBroken.endDrillCycle := by
  have hpending : p.cycleBroken.endDrillCycle.drill.pendingSetup = p.drill.pendingSetup := by
    rw [endDrillCycle_over ho, cycleBroken_blocks]
  rw [drillGuardInIdle_eq h, ← hpending]
  rfl

/-! ### Each station's reaction leaves the sets and the supervisor alone -/

theorem guardInIdle_frame (x : Station) (p : Part) :
    (p.guardInIdle x).stations = p.stations ∧ (p.guardInIdle x).sup = p.sup := by
  cases x with
  | punch => exact punchGuardInIdle_frame p
  | drill => exact drillGuardInIdle_frame p
  | closer =>
    unfold guardInIdle closerGuardInIdle
    dsimp only
    split <;> simp

/-- A spoiling writes the pockets, the requests and the staged entry of the closer, and nothing else of it. -/
theorem spoil_closer_blocks (n : Nat) (why : SpoilReason) (lower : Bool) (p : Part) :
    (p.spoil n why lower).closer = { p.closer with
      pocketA := (p.spoil n why lower).closer.pocketA, pocketB := (p.spoil n why lower).closer.pocketB
      requests := (p.spoil n why lower).closer.requests, staged := (p.spoil n why lower).closer.staged } := by
  cases hb : p.book? n with
  | none => rw [spoil_none _ _ hb]
  | some b =>
    have fresh (hs : b.state = .opened ∨ b.state = .filled ∨ b.state = .ready) :
        (p.spoil n why lower).closer = { p.closer with
          pocketA := (p.spoil n why lower).closer.pocketA, pocketB := (p.spoil n why lower).closer.pocketB
          requests := (p.spoil n why lower).closer.requests, staged := (p.spoil n why lower).closer.staged } := by
      rw [spoil_fresh_eq _ _ hb hs, endTest_blocks, takeSpoiled_closer_eq]
    cases hs : b.state with
    | opened => exact fresh (.inl hs)
    | filled => exact fresh (.inr (.inl hs))
    | ready => exact fresh (.inr (.inr hs))
    | closing => rw [spoil_closer_kept _ _ hb (.inl hs)]
    | spoiled => rw [spoil_closer_kept _ _ hb (.inr hs)]
    | ended => rw [spoil_ended_eq _ _ hb hs]

theorem spoil_faultRecord (n : Nat) (why : SpoilReason) (lower : Bool) (p : Part) :
    (p.spoil n why lower).closer.faultRecord = p.closer.faultRecord := by
  rw [spoil_closer_blocks]

/-- With no cycle running a controller does not react. -/
theorem guardInIdle_at_rest {x : Station} {p : Part} (h : p.cycleRunning x = false) : p.guardInIdle x = p := by
  cases x with
  | punch =>
    refine punchGuardInIdle_else ?_ ?_
    all_goals
      intro hs
      simp [cycleRunning, hs] at h
  | drill => exact drillGuardInIdle_none (by simpa [cycleRunning] using h)
  | closer => exact if_neg (by simp [h])

end Part

/-- Settles O50: outside IDLE the one `raise` or the level alone; in IDLE the controller of the station reacts. -/
theorem guardEventsComplete : Obligations.GuardEventsComplete := by
  intro s p x hp
  refine ⟨fun hshut => ?_, external_gives hp rfl⟩
  intro opened due travel letsGo atWork broken marked cycleEnds
  let r : Part := p.guardOpened x
  have hbroken (i : Idx4) : r.cycleBroken.spindle i = broken i := by
    refine (Part.cycleBroken_spindle r i).trans ?_
    by_cases hi : i ∈ p.drill.cycle
    · refine (if_pos hi).trans ?_
      simp only [broken, hi, true_and]
      rfl
    · refine (if_neg hi).trans ?_
      simp only [broken, hi, false_and, if_false]
      rfl
  have hover (hc : p.drill.cycle ≠ []) : r.cycleBroken.cycleOver = cycleEnds := by
    refine (Part.cycleBroken_over (p := r) hc).trans ?_
    simp only [hbroken]
    rfl
  have hidle (hl : p.sup.line = .idle) : exec (.guardOpen x) s = .next (s.withPart (r.guardInIdle x)) :=
    external_gives hp (Part.openGuardOf_idle hshut hl)
  refine ⟨fun hl hact => ?_, fun hl ha hc => ?_, fun hl => external_gives hp (Part.openGuardOf_halt hshut hl),
    fun hl hc => ?_, fun hl => ⟨r.guardInIdle x, hidle hl, (Part.guardInIdle_frame x r).1, (Part.guardInIdle_frame x r).2,
    fun hx hs => ?_, fun hx hs hu => ?_, fun hx hs hu => ?_, fun hx hs => ?_, fun hx hc => ⟨fun he => ?_, fun he => ?_⟩,
    fun cur hx hc hcur => ?_⟩⟩
  · intro q
    have hline : p.sup.line ≠ .halt := by rcases hl with h | h <;> simp [h]
    have hrow : p.openGuardOf x = q := (Part.openGuardOf_running hshut hl).trans (if_pos (by simpa using hact))
    have hstations : q.stations = opened := by simp [q]
    refine ⟨external_gives hp hrow, hstations, Part.effective_open ?_, Part.raise_line _ _ _,
      Part.raise_cause (p := r) hline _ _⟩
    rw [hstations]
    exact Part.guardOpened_has x p
  · exact external_gives hp ((Part.openGuardOf_running hshut hl).trans (if_neg (by simp [ha, hc])))
  · rw [hidle hl, Part.guardInIdle_at_rest (p := r) hc]
    rfl
  · subst hx
    have hend : r.guardInIdle .punch = r.endEngagement .stationOff [] :=
      Part.punchGuardInIdle_engage (p := r) hs
    rw [hend]
    exact ⟨fun hh => Part.endEngagement_unheld (p := r) hh _ _,
      fun es e fs hh hq hes he => Part.endEngagement_append (p := r) hh hq hes he _ _,
      Part.endEngagement_blocks _ _ r⟩
  · subst hx
    exact (Part.punchGuardInIdle_strike (p := r) hs).trans (Part.enterReturn_down (p := r.strokeBroken) hu)
  · subst hx
    refine ⟨r.strokeBroken.cycleLet, ⟨fun hh => ?_, fun es e fs hh hq hes he => ?_, rfl⟩, ?_⟩
    · exact if_neg (by rw [show r.strokeBroken.punch.held = false from hh]; simp)
    · exact Part.cycleLet_append (p := r.strokeBroken) hh rfl hq hes he
    · exact (Part.punchGuardInIdle_strike (p := r) hs).trans ((Part.enterReturn_up (p := r.strokeBroken) hu).trans
        ((Part.endRamCycle_eq _).trans (Part.pendingPunch_idle rfl)))
  · subst hx
    exact Part.punchGuardInIdle_else (p := r) (by rw [show r.punch.state = .ramReturn from hs]; simp)
      (by rw [show r.punch.state = .ramReturn from hs]; simp)
  · subst hx
    have hq : r.guardInIdle .drill = r.cycleBroken := Part.drillGuardInIdle_going (p := r) hc (hover hc ▸ he)
    rw [hq]
    exact ⟨hbroken, Part.cycleBroken_faulted r, Part.cycleBroken_blocks r⟩
  · subst hx
    have hends : r.cycleBroken.cycleOver = true := hover hc ▸ he
    refine ⟨r.cycleBroken.endDrillCycle, fun i => ?_, fun hh => ?_, fun es e fs hh hq hes hat => ?_, ?_, ?_⟩
    · rw [Part.endDrillCycle_over hends, ← hbroken i]
      exact Quad.get_map _ _ _
    · have hheld : r.cycleBroken.drill.held = false := by
        rw [Part.cycleBroken_blocks]
        exact hh
      rw [Part.endDrillCycle_unheld hheld, Part.cycleBroken_blocks]
      rfl
    · have hheld : r.cycleBroken.drill.held = true := by
        rw [Part.cycleBroken_blocks]
        exact hh
      have hqueue : r.cycleBroken.tracker.queue = es ++ e :: fs := by
        rw [Part.cycleBroken_blocks]
        exact hq
      refine ⟨r.cycleBroken.drill.faulted, Part.cycleBroken_faulted r, ?_⟩
      rw [Part.endDrillCycle_append hends hheld hqueue hes hat, Part.cycleBroken_blocks]
      rfl
    · rw [Part.endDrillCycle_over hends, Part.cycleBroken_blocks]
      rfl
    · exact Part.drillGuardInIdle_over (p := r) hc hends
  · subst hx
    have hq : r.guardInIdle .closer = if p.closer.state = .dump then r.faultCloser cur .guard
        else (r.faultCloser cur .guard).spoil cur.book .closerFault false :=
      (if_pos hc).trans (Part.closerFails_eq (p := r) hcur .guard)
    refine ⟨hq, ?_, ?_⟩
    · rw [hq]
      split
      · rfl
      · exact (Part.spoil_closer _ _ _ _).1
    · rw [hq]
      split
      · rfl
      · rw [Part.spoil_faultRecord]
        rfl

end Sys2Proof.Machine
end

section
/-! SUPPORT. Several records are spoiled, one after the other (R40, R41, R49, R50). -/

namespace Sys2Proof.Machine

/-- A record that a spoil takes from its pocket: in OPEN, FILLED or READY. -/
def Book.fresh (b : Book) : Bool := b.state == .opened || b.state == .filled || b.state == .ready

/-- A record that gathers, so that its pocket is not yet in the request list. -/
def Book.gathers (b : Book) : Bool := b.state == .opened || b.state == .filled

/-- What a spoil makes of the record that it names, with the end test (R40, R41). -/
def Book.taken (why : SpoilReason) (lower : Bool) (b : Book) : Book :=
  match b.state with
  | .opened | .filled | .ready => (Book.spoiledBy why lower b).tested
  | .closing => if why = .closerFault ∨ why = .lineHalt then (Book.spoiledBy why false b).tested else b
  | .spoiled => (Book.lowered lower b).tested
  | .ended => b

theorem Book.fresh_iff {b : Book} : b.fresh = true ↔ b.state = .opened ∨ b.state = .filled ∨ b.state = .ready := by
  simp [Book.fresh, or_assoc]

theorem Book.not_gathers {b : Book} (h : b.fresh = false) : b.gathers = false :=
  (Bool.or_eq_false_iff.1 h).1

theorem Book.tested_number (b : Book) : b.tested.number = b.number := by
  unfold Book.tested
  split <;> rfl

theorem Book.tested_of_spoiled {b : Book} (h : b.state = .spoiled) : b.tested.state = .ended ↔ b.mayEnd = true := by
  unfold Book.tested
  split
  · next hm => exact iff_of_true rfl hm
  · next hm => exact iff_of_false (by simp [h]) hm

theorem Book.taken_fresh {b : Book} (h : b.fresh = true) (why : SpoilReason) (lower : Bool) :
    b.taken why lower = (Book.spoiledBy why lower b).tested := by
  unfold Book.taken
  rcases Book.fresh_iff.1 h with h | h | h <;> rw [h]

theorem Book.taken_spoiled {b : Book} (h : b.state = .spoiled) (why : SpoilReason) (lower : Bool) :
    b.taken why lower = (Book.lowered lower b).tested := by
  unfold Book.taken
  rw [h]

theorem Book.taken_closing {b : Book} (h : b.state = .closing) (why : SpoilReason) (lower : Bool) :
    b.taken why lower =
      if why = .closerFault ∨ why = .lineHalt then (Book.spoiledBy why false b).tested else b := by
  unfold Book.taken
  rw [h]

theorem Book.taken_ended {b : Book} (h : b.state = .ended) (why : SpoilReason) (lower : Bool) :
    b.taken why lower = b := by
  unfold Book.taken
  rw [h]

theorem Book.taken_number (why : SpoilReason) (lower : Bool) (b : Book) : (b.taken why lower).number = b.number := by
  unfold Book.taken
  split
  · rw [Book.tested_number, (Part.Book.spoiledBy_fields _ _ b).1]
  · rw [Book.tested_number, (Part.Book.spoiledBy_fields _ _ b).1]
  · rw [Book.tested_number, (Part.Book.spoiledBy_fields _ _ b).1]
  · split
    · rw [Book.tested_number, (Part.Book.spoiledBy_fields _ _ b).1]
    · rfl
  · rw [Book.tested_number, (Book.lowered_fields _ b).1]
  · rfl

/-- The record ends in its spoil. -/
def Book.endsIn (why : SpoilReason) (lower : Bool) (b : Book) : Bool :=
  b.state != .ended && (b.taken why lower).state == .ended

namespace Part

/-- What the spoils of the records of `l` make of a part: its records, end order, request list, pockets and staged
count. -/
structure Takes (why : SpoilReason) (lower : Bool) (l : List Book) (p q : Part) : Prop where
  records : q.books.records =
    p.books.records.map fun b => if b.number ∈ l.map Book.number then b.taken why lower else b
  endOrder : q.books.endOrder = p.books.endOrder ++ (l.filter (Book.endsIn why lower)).map Book.id
  requests : q.closer.requests = p.closer.requests ++ (l.filter Book.gathers).filterMap Book.pocket
  pocket : ∀ k, q.pocket k = if l.any fun b => b.fresh && b.pocket == some k then { p.pocket k with state := .dumpWait }
    else p.pocket k
  staged : q.closer.staged = p.closer.staged.filter fun g => !l.any fun b => b.fresh && b.id == g.id

/-- A test that nothing fails filters nothing out. -/
theorem filter_kept {α : Type} {f : α → Bool} (o : Option α) (h : ∀ x, f x = true) : o.filter f = o := by
  cases o <;> simp [Option.filter, h]

theorem Takes.nil (why : SpoilReason) (lower : Bool) (p : Part) : Takes why lower [] p p :=
  ⟨by simp, by simp, by simp, by simp, (filter_kept _ fun _ => by simp).symm⟩

theorem Takes.cons {why : SpoilReason} {lower : Bool} {b : Book} {l : List Book} {p q r : Part}
    (hb : Takes why lower [b] p q) (hl : Takes why lower l q r) (hn : b.number ∉ l.map Book.number) :
    Takes why lower (b :: l) p r where
  records := by
    rw [hl.records, hb.records, List.map_map]
    refine List.map_congr_left fun x _ => ?_
    by_cases hx : x.number = b.number
    · have hout : ¬x.number ∈ l.map Book.number := hx ▸ hn
      have hin : x.number ∈ [b].map Book.number := by simp [hx]
      have hin' : x.number ∈ (b :: l).map Book.number := by simp [hx]
      rw [Function.comp_apply, if_pos hin, if_pos hin', Book.taken_number, if_neg hout]
    · simp [hx]
  endOrder := by
    rw [hl.endOrder, hb.endOrder, List.append_assoc, ← List.map_append, ← List.filter_append]
    rfl
  requests := by
    rw [hl.requests, hb.requests, List.append_assoc, ← List.filterMap_append, ← List.filter_append]
    rfl
  pocket k := by
    rw [hl.pocket, hb.pocket]
    simp only [List.any_cons, List.any_nil, Bool.or_false]
    by_cases h : (b.fresh && b.pocket == some k) = true <;> simp [h]
  staged := by
    rw [hl.staged, hb.staged, Option.filter_filter]
    simp

/-! ### One record -/

theorem endTest_records {p r : Part} {n : Nat} {b : Book} {f : Book → Book} (hp : p.Kept) (hb : p.book? n = some b)
    (hf : ∀ b, (f b).number = b.number) (hr : r.books = (p.updateBook n f).books) : (r.endTest n).books.records =
      p.books.records.map fun x => if x.number = n then (f x).tested else x := by
  have hrec : r.books.records = p.books.records.map fun x => if x.number = n then f x else x := by
    rw [hr]
    rfl
  have hfound : r.book? n = some (f b) := by
    rw [book?_congr hr, book?_updateBook n n f hf, if_pos rfl, hb]
    rfl
  have hsame {x : Book} (hx : x ∈ p.books.records) (hn : x.number = n) : x = b :=
    Option.some.inj ((hp.book?_iff.2 ⟨hx, hn⟩).symm.trans hb)
  unfold endTest
  rw [hfound]
  dsimp only
  split
  · next hm =>
    rw [endBook_eq _ hfound]
    refine (congrArg (List.map _) hrec).trans ?_
    rw [List.map_map]
    refine List.map_congr_left fun x hx => ?_
    by_cases hn : x.number = n
    · have htested : (f x).tested = Book.endedWith .spoiled (f x) := if_pos (by rw [hsame hx hn]; exact hm)
      simp [hn, hf, htested]
    · simp [hn]
  · next hm =>
    rw [hrec]
    refine List.map_congr_left fun x hx => ?_
    by_cases hn : x.number = n
    · have htested : (f x).tested = f x := if_neg (by rw [hsame hx hn]; exact hm)
      rw [if_pos hn, if_pos hn, htested]
    · rw [if_neg hn, if_neg hn]

theorem ne_ended_of_fresh {b : Book} (h : b.fresh = true) : b.state ≠ .ended := by
  rcases Book.fresh_iff.1 h with h | h | h <;> simp [h]

/-- A pocket of a record in OPEN, FILLED or READY is in GATHERING exactly for the first two (R37). -/
theorem Kept.fresh_gathers {p : Part} (hp : p.Kept) {n : Nat} {b : Book} (hb : p.book? n = some b) {k : PocketId}
    (hk : b.pocket = some k) (hf : b.fresh = true) : (p.pocket k).state = .gathering ↔ b.gathers = true := by
  have hhold := (hp.fits b (hp.book?_iff.1 hb).1).holder k hk
  unfold Book.gathers
  rcases Book.fresh_iff.1 hf with hs | hs | hs <;> cases h : (p.pocket k).state <;>
    simp [h, hs, holders] at hhold ⊢

theorem endsIn_of_tested {b c : Book} {why : SpoilReason} {lower : Bool} (hs : b.state ≠ .ended)
    (ht : b.taken why lower = c.tested) (hc : c.state = .spoiled) : b.endsIn why lower = c.mayEnd := by
  unfold Book.endsIn
  rw [ht, Bool.eq_iff_iff, ← Book.tested_of_spoiled hc]
  simp [hs]

theorem takes_fresh {p : Part} {n : Nat} {b : Book} (hp : p.Kept) (why : SpoilReason) (lower : Bool)
    (hb : p.book? n = some b) (hf : b.fresh = true) : Takes why lower [b] p (p.spoil n why lower) := by
  have hn : b.number = n := book?_number hb
  have hs := Book.fresh_iff.1 hf
  have hcloser : (p.spoil n why lower).closer = (p.takeSpoiled n why lower b).closer := by
    rw [spoil_fresh_eq why lower hb hs, endTest_blocks]
  refine ⟨?_, ?_, ?_, fun k => ?_, ?_⟩
  · rw [spoil_fresh_eq why lower hb hs, endTest_records hp hb (fun x => (Book.spoiledBy_fields why lower x).1)
      (by rw [takeSpoiled_blocks])]
    refine List.map_congr_left fun x hx => ?_
    by_cases hxn : x.number = n
    · have hxb : x = b := Option.some.inj ((hp.book?_iff.2 ⟨hx, hxn⟩).symm.trans hb)
      rw [if_pos hxn, if_pos (by simp [hxn, hn]), hxb, Book.taken_fresh hf]
    · rw [if_neg hxn, if_neg (by simpa [hn] using hxn)]
  · rw [(spoil_fresh_changed why lower hb hs).endOrder, ← endsIn_of_tested (ne_ended_of_fresh hf)
      (Book.taken_fresh hf why lower) (Book.spoiledBy_state why lower b), (Book.spoiledBy_fields why lower b).2.1]
    cases h : b.endsIn why lower <;> simp [h]
  · rw [hcloser, takeSpoiled_closer_eq]
    cases hk : b.pocket with
    | none => cases h : b.gathers <;> simp [h, hk]
    | some k =>
      have hg := hp.fresh_gathers hb hk hf
      cases h : b.gathers <;> simp [h, hk, hg, Option.filter]
  · have hpocket : (p.spoil n why lower).pocket k = (p.takeSpoiled n why lower b).pocket k := by
      rw [spoil_fresh_eq why lower hb hs, pocket_endTest]
    rw [hpocket, takeSpoiled_pocket]
    refine if_congr ?_ rfl rfl
    simp only [List.any_cons, List.any_nil, Bool.or_false, hf, Bool.true_and, beq_iff_eq]
    exact ⟨And.left, fun hk => ⟨hk, hp.fresh_pocket hb hk hs⟩⟩
  · rw [hcloser, takeSpoiled_closer_eq]
    refine congrArg (Option.filter · p.closer.staged) (funext fun g => ?_)
    simp [hf, bne, BEq.comm]

/-- A record that holds no leaves to be taken: only it and the end order change. -/
theorem takes_stale {p q : Part} {n : Nat} {b : Book} {f : Book → Book} {why : SpoilReason} {lower : Bool}
    (hp : p.Kept) (hb : p.book? n = some b) (hf : b.fresh = false) (hs : b.state ≠ .ended)
    (hnum : ∀ x, (f x).number = x.number) (hid : (f b).id = b.id) (hst : (f b).state = .spoiled)
    (ht : b.taken why lower = (f b).tested) (hq : q = (p.updateBook n f).endTest n) : Takes why lower [b] p q := by
  have hn : b.number = n := book?_number hb
  have hg : b.gathers = false := Book.not_gathers hf
  have hcloser : q.closer = p.closer := by
    rw [hq, endTest_blocks]
    rfl
  have hchanged : RecordChanged p q n (f b) := hq ▸ endTest_changed hb hnum rfl
  refine ⟨?_, ?_, ?_, fun k => ?_, ?_⟩
  · rw [hq, endTest_records hp hb hnum rfl]
    refine List.map_congr_left fun x hx => ?_
    by_cases hxn : x.number = n
    · have hxb : x = b := Option.some.inj ((hp.book?_iff.2 ⟨hx, hxn⟩).symm.trans hb)
      rw [if_pos hxn, if_pos (by simp [hxn, hn]), hxb, ht]
    · rw [if_neg hxn, if_neg (by simpa [hn] using hxn)]
  · rw [hchanged.endOrder, ← endsIn_of_tested hs ht hst, hid]
    cases h : b.endsIn why lower <;> simp [h]
  · simp [hcloser, hg]
  · rw [if_neg (by simp [hf])]
    exact pocket_congr (by rw [hcloser]) (by rw [hcloser]) k
  · rw [hcloser]
    exact (filter_kept _ fun _ => by simp [hf]).symm

/-- A record that its spoil leaves as it is. -/
theorem takes_kept {p : Part} {b : Book} {why : SpoilReason} {lower : Bool} (hp : p.Kept)
    (hb : p.book? b.number = some b) (hf : b.fresh = false) (ht : b.taken why lower = b) : Takes why lower [b] p p := by
  have hg : b.gathers = false := Book.not_gathers hf
  have hends : b.endsIn why lower = false := by
    unfold Book.endsIn
    rw [ht]
    cases b.state <;> rfl
  refine ⟨?_, by simp [hends], by simp [hg], by simp [hf], (filter_kept _ fun _ => by simp [hf]).symm⟩
  conv_lhs => rw [← List.map_id p.books.records]
  refine List.map_congr_left fun x hx => ?_
  by_cases hxn : x.number = b.number
  · rw [if_pos (by simp [hxn]), hp.same_number hx (hp.book?_iff.1 hb).1 hxn, ht]
    rfl
  · rw [if_neg (by simpa using hxn)]
    rfl

theorem takes_one {p : Part} {b : Book} (hp : p.Kept) (hb : p.book? b.number = some b) (why : SpoilReason)
    (lower : Bool) : Takes why lower [b] p (p.spoil b.number why lower) := by
  have fresh (hs : b.state = .opened ∨ b.state = .filled ∨ b.state = .ready) :=
    takes_fresh hp why lower hb (Book.fresh_iff.2 hs)
  cases hs : b.state with
  | opened => exact fresh (.inl hs)
  | filled => exact fresh (.inr (.inl hs))
  | ready => exact fresh (.inr (.inr hs))
  | closing =>
    have hfresh : b.fresh = false := by simp [Book.fresh, hs]
    have htaken := Book.taken_closing hs why lower
    rw [spoil_closing_eq why lower hb hs]
    split
    · next hw =>
      exact takes_stale hp hb hfresh (by simp [hs]) (fun x => (Book.spoiledBy_fields why false x).1)
        (Book.spoiledBy_fields why false b).2.1 (Book.spoiledBy_state why false b) (htaken.trans (if_pos hw)) rfl
    · next hw => exact takes_kept hp hb hfresh (htaken.trans (if_neg hw))
  | spoiled =>
    rw [spoil_spoiled_eq why lower hb hs]
    exact takes_stale hp hb (by simp [Book.fresh, hs]) (by simp [hs]) (fun x => (Book.lowered_fields lower x).1)
      (Book.lowered_fields lower b).2.1 ((Book.lowered_state lower b).trans hs) (Book.taken_spoiled hs why lower) rfl
  | ended =>
    rw [spoil_ended_eq why lower hb hs]
    exact takes_kept hp hb (by simp [Book.fresh, hs]) (Book.taken_ended hs why lower)

/-- The spoils of several records, each found under its number. -/
theorem takes_all {p : Part} {l : List Book} (hp : p.Kept) (hl : ∀ b ∈ l, p.book? b.number = some b)
    (hn : (l.map Book.number).Nodup) (why : SpoilReason) (lower : Bool) :
    Takes why lower l p (l.foldl (fun q b => q.spoil b.number why lower) p) := by
  induction l generalizing p with
  | nil => exact Takes.nil why lower p
  | cons b l ih =>
    rw [List.map_cons, List.nodup_cons] at hn
    obtain ⟨hout, hn⟩ := hn
    refine (takes_one hp (hl b (by simp)) why lower).cons (ih (hp.spoil _ _ _) (fun x hx => ?_) hn) hout
    have hne : x.number ≠ b.number := fun h => hout (h ▸ List.mem_map_of_mem hx)
    rw [book?_spoil_ne why lower p hne]
    exact hl x (List.mem_cons_of_mem b hx)

end Part

end Sys2Proof.Machine
end

section
/-! SUPPORT. RESUME (R163 to R165, R50). -/

namespace Sys2Proof.Machine

namespace Part

theorem Takes.congr {why : SpoilReason} {lower : Bool} {l : List Book} {p p' q : Part} (h : Takes why lower l p' q)
    (hb : p'.books = p.books) (hc : p'.closer = p.closer) : Takes why lower l p q := by
  have hpocket (k : PocketId) : p'.pocket k = p.pocket k := pocket_congr (by rw [hc]) (by rw [hc]) k
  obtain ⟨hrec, hend, hreq, hpock, hstaged⟩ := h
  rw [hb] at hrec hend
  rw [hc] at hreq hstaged
  simp only [hpocket] at hpock
  exact ⟨hrec, hend, hreq, hpock, hstaged⟩

/-- Spoils write the book table and the closer. -/
theorem spoils_blocks {α : Type} (f : α → Nat) (why : SpoilReason) (lower : Bool) (l : List α) (p : Part) :
    l.foldl (fun q x => q.spoil (f x) why lower) p = { p with
      books := (l.foldl (fun q x => q.spoil (f x) why lower) p).books
      closer := (l.foldl (fun q x => q.spoil (f x) why lower) p).closer } := by
  induction l generalizing p with
  | nil => rfl
  | cons x l ih =>
    rw [List.foldl_cons]
    refine (ih _).trans ?_
    rw [spoil_blocks]

/-- Of the closer, spoils write the pockets, the requests and the staged entry. -/
theorem spoils_closer_blocks {α : Type} (f : α → Nat) (why : SpoilReason) (lower : Bool) (l : List α) (p : Part) :
    (l.foldl (fun q x => q.spoil (f x) why lower) p).closer = { p.closer with
      pocketA := (l.foldl (fun q x => q.spoil (f x) why lower) p).closer.pocketA
      pocketB := (l.foldl (fun q x => q.spoil (f x) why lower) p).closer.pocketB
      requests := (l.foldl (fun q x => q.spoil (f x) why lower) p).closer.requests
      staged := (l.foldl (fun q x => q.spoil (f x) why lower) p).closer.staged } := by
  induction l generalizing p with
  | nil => rfl
  | cons x l ih =>
    rw [List.foldl_cons]
    refine (ih _).trans ?_
    rw [spoil_closer_blocks]

theorem Kept.number_mem_filter {p : Part} (hp : p.Kept) (f : Book → Bool) {b : Book} (hb : b ∈ p.books.records) :
    b.number ∈ (p.books.records.filter f).map Book.number ↔ f b = true := by
  rw [List.mem_map]
  constructor
  · rintro ⟨x, hx, hn⟩
    obtain ⟨hx, hf⟩ := List.mem_filter.1 hx
    rwa [hp.same_number hx hb hn] at hf
  · exact fun hf => ⟨b, List.mem_filter.2 ⟨hb, hf⟩, rfl⟩

/-- The spoils of the records that a test picks. -/
theorem Kept.takes_filter {p : Part} (hp : p.Kept) (f : Book → Bool) (why : SpoilReason) (lower : Bool) :
    Takes why lower (p.books.records.filter f) p
      ((p.books.records.filter f).foldl (fun q b => q.spoil b.number why lower) p) :=
  takes_all hp (fun _ hb => hp.book?_iff.2 ⟨(List.mem_filter.1 hb).1, rfl⟩)
    (hp.numbers.sublist (List.filter_sublist.map _)) why lower

/-! ### FLUSH -/

/-- The queue's part of FLUSH: every WAITING entry is DONE FLUSHED. -/
def queueFlushed (p : Part) : Part := p.finishAll (fun e => e.stage == .waiting) .flushed

theorem queueFlushed_books (p : Part) : p.queueFlushed.books = p.books := finishAll_flushed_books _ p

theorem queueFlushed_closer (p : Part) : p.queueFlushed.closer = p.closer := finishAll_closer _ (by simp) p

theorem flushWaiting_eq (p : Part) : p.flushWaiting =
    (p.books.records.filter flushable).foldl (fun q b => q.spoil b.number .flushed true) p.queueFlushed := by
  rw [← queueFlushed_books p]
  rfl

theorem flushWaiting_takes {p : Part} (hp : p.Kept) :
    Takes .flushed true (p.books.records.filter flushable) p p.flushWaiting := by
  have hkept : p.queueFlushed.Kept := kept_finishFlushed (pick := fun st => st == .waiting) hp rfl
  have htakes := hkept.takes_filter flushable .flushed true
  rw [queueFlushed_books, ← flushWaiting_eq] at htakes
  exact htakes.congr (queueFlushed_books p) (queueFlushed_closer p)

theorem flushWaiting_blocks (p : Part) : p.flushWaiting = { p with
    tracker := { p.tracker with
      queue := p.tracker.queue.map fun e => if e.stage == .waiting then e.finish .flushed else e }
    patterns := p.flushWaiting.patterns, books := p.flushWaiting.books, closer := p.flushWaiting.closer } := by
  have hqueue : p.queueFlushed = { p with
      tracker := p.queueFlushed.tracker, patterns := p.queueFlushed.patterns, books := p.queueFlushed.books
      closer := p.queueFlushed.closer } := by
    have h := finishAll_frame (fun e => e.stage == .waiting) .flushed p
    obtain ⟨hport, hcmd, hpunch, hdrill, htime, hst, hsup⟩ := h
    unfold queueFlushed
    rw [← hport, ← hcmd, ← hpunch, ← hdrill, ← htime, ← hst, ← hsup]
  have htracker : p.queueFlushed.tracker = { p.tracker with
      queue := p.tracker.queue.map fun e => if e.stage == .waiting then e.finish .flushed else e } :=
    finishAll_tracker _ _ p
  rw [flushWaiting_eq, spoils_blocks, hqueue, htracker]

theorem flushWaiting_closer_blocks (p : Part) : p.flushWaiting.closer = { p.closer with
    pocketA := p.flushWaiting.closer.pocketA, pocketB := p.flushWaiting.closer.pocketB
    requests := p.flushWaiting.closer.requests, staged := p.flushWaiting.closer.staged } := by
  rw [flushWaiting_eq, spoils_closer_blocks, queueFlushed_closer]

theorem flushWaiting_patterns (p : Part) (n : Nat) (hn : n < 64) : p.flushWaiting.pattern? n = p.pattern? n ∧
    p.flushWaiting.useCount n = p.useCount n -
      p.tracker.queue.countP fun e => e.stage == .waiting && !e.isVoid && e.pattern == n := by
  have hpatterns : p.flushWaiting.patterns = p.queueFlushed.patterns := by rw [flushWaiting_eq, spoils_blocks]
  exact ⟨(pattern?_congr hpatterns n).trans (pattern?_finishAll _ _ p n),
    (useCount_congr hpatterns n).trans (useCount_finishAll _ _ p hn)⟩

theorem flushWaiting_tailBook (p : Part) : p.flushWaiting.books.tailBook = p.books.tailBook := by
  rw [flushWaiting_eq, foldl_keeps _ (fun q : Part => q.books.tailBook) fun q (b : Book) => spoil_tailBook b.number _ _ q,
    queueFlushed_books]

/-- The end test of a SPOILED record whose expected count has come down. -/
theorem tested_lowered {c : Book} (h : c.admitted = c.expected) : c.tested =
    if c.state = .spoiled ∧ c.inQueue = 0 ∧ c.pocket = none then
      { c with state := .ended, generation := c.generation + 1, outcome := some .spoiled }
    else c :=
  if_congr (by rw [Book.mayEnd_iff]; simp [h]) rfl rfl

/-- What FLUSH makes of a record: it is spoiled, or its expected count comes down, each with the end test (R50). -/
def flushedBook (b : Book) : Book :=
  if b.gathers then
    Book.tested { b with
      state := .spoiled, generation := b.generation + 1, spoilReason := some .flushed, expected := b.admitted }
  else if b.state = .spoiled then Book.tested { b with expected := b.admitted }
  else b

theorem flushed_taken (b : Book) : (if flushable b = true then b.taken .flushed true else b) = flushedBook b := by
  cases hs : b.state with
  | opened | filled =>
    rw [if_pos (by simp [flushable, hs]), Book.taken_fresh (by simp [Book.fresh, hs])]
    exact (if_pos (by simp [Book.gathers, hs])).symm
  | spoiled =>
    rw [if_pos (by simp [flushable, hs]), Book.taken_spoiled hs]
    exact ((if_neg (by simp [Book.gathers, hs])).trans (if_pos hs)).symm
  | ready | closing | ended =>
    rw [if_neg (by simp [flushable, hs])]
    exact ((if_neg (by simp [Book.gathers, hs])).trans (if_neg (by simp [hs]))).symm

/-- The records that FLUSH takes from their pockets are those in OPEN and FILLED. -/
theorem flushable_picks (b : Book) :
    (b.fresh && flushable b) = b.gathers ∧ (b.gathers && flushable b) = b.gathers := by
  unfold Book.fresh flushable Book.gathers
  cases b.state <;> exact ⟨rfl, rfl⟩

theorem endsIn_flushed (b : Book) : (b.endsIn .flushed true && flushable b) =
    (b.state != .ended && (flushedBook b).state == .ended) := by
  unfold Book.endsIn
  rw [← flushed_taken]
  cases hf : flushable b with
  | true => simp
  | false =>
    rw [Bool.and_false, if_neg (by simp)]
    cases b.state <;> rfl

theorem Kept.pocket_flushed {p : Part} (hp : p.Kept) (k : PocketId) :
    ((p.books.records.filter flushable).any fun b => b.fresh && b.pocket == some k) = true ↔
      (p.pocket k).state = .gathering := by
  rw [List.any_eq_true]
  constructor
  · rintro ⟨b, hb, hf⟩
    obtain ⟨hmem, hflush⟩ := List.mem_filter.1 hb
    obtain ⟨hfresh, hk⟩ : b.fresh = true ∧ b.pocket = some k := by simpa using hf
    refine (hp.fresh_gathers (hp.book?_iff.2 ⟨hmem, rfl⟩) hk hfresh).2 ?_
    unfold flushable at hflush
    unfold Book.gathers
    rcases Book.fresh_iff.1 hfresh with hs | hs | hs <;> simp [hs] at hflush ⊢
  · intro hg
    have hsome : ∃ n, (p.pocket k).book = some n := by
      rw [← Option.ne_none_iff_exists']
      exact fun hnone => by simp [(hp.free k).2 hnone] at hg
    obtain ⟨n, hn⟩ := hsome
    obtain ⟨b, -, hmem, -, hk, hs⟩ := hp.held hn
    have hstate : b.state = .opened ∨ b.state = .filled := by simpa [hg, holders] using hs
    refine ⟨b, List.mem_filter.2 ⟨hmem, ?_⟩, ?_⟩
    · rcases hstate with h | h <;> simp [flushable, h]
    · rcases hstate with h | h <;> simp [Book.fresh, h, hk]

/-! ### The answers -/

/-- R163's order, spelled out. -/
theorem resumeCondition_eq (p : Part) : p.resumeCondition =
    if p.sup.supplyLow then some .supplyLow
    else if p.sup.driverShutdown then some .driverShutdown
    else if p.timebase.state ≠ .valid then some (.timebase p.timebase.state)
    else if p.punch.state = .fault then some .punchFault
    else if (p.spindle .i1).state = .fault then some (.spindleFault .i1)
    else if (p.spindle .i2).state = .fault then some (.spindleFault .i2)
    else if (p.spindle .i3).state = .fault then some (.spindleFault .i3)
    else if (p.spindle .i4).state = .fault then some (.spindleFault .i4)
    else if p.stations.activation.punch && p.stations.guardsOpen.punch then some (.guardOpen .punch)
    else if p.stations.activation.drill && p.stations.guardsOpen.drill then some (.guardOpen .drill)
    else if p.stations.activation.closer && p.stations.guardsOpen.closer then some (.guardOpen .closer)
    else none := by
  unfold resumeCondition
  rw [firstOf_supply, firstOf_shutdown, firstOf_timebase, firstOf_punch, firstOf_spindle, firstOf_guard]
  rfl

section
variable {t : Ticket} {p : Part}

theorem resume_badLength {l : List Byte} (hb : t.body = 19 :: l) (hl : l.length ≠ 1) :
    p.answerResume t = refuse .badLength [] p := by
  unfold answerResume
  rw [hb]
  split
  · next h =>
    obtain rfl : l = _ := (List.cons.inj h).2
    simp at hl
  · rfl

variable {m : Byte} (hb : t.body = [19, m])
include hb

theorem resume_wrongState (hl : p.sup.line ≠ .halt) : p.answerResume t = refuse .wrongState [] p := by
  simp only [answerResume, hb, if_pos hl]

variable (hl : p.sup.line = .halt)
include hl

theorem resume_badField (h1 : m ≠ 1) (h2 : m ≠ 2) : p.answerResume t = refuse .badField [] p := by
  simp only [answerResume, hb, if_neg (not_not.2 hl), if_pos (And.intro h1 h2)]

theorem resume_condition {c : Condition} (hm : m = 1 ∨ m = 2) (hc : p.resumeCondition = some c) :
    p.answerResume t = refuse .conditionPresent (c.bytes ++ [4]) p := by
  have hmode : ¬(m ≠ 1 ∧ m ≠ 2) := by tauto
  simp only [answerResume, hb, if_neg hmode, hc, hl]
  rfl

theorem resume_continues (hm : m = 1) (hc : p.resumeCondition = none) :
    p.answerResume t = ⟨p.leaveHalt, .ok, [1, 1, 0, 0]⟩ := by
  subst hm
  simp only [answerResume, hb, if_neg (not_not.2 hl), hc]
  rfl

theorem resume_flushes (hm : m = 2) (hc : p.resumeCondition = none) : p.answerResume t =
    ⟨p.flushWaiting.leaveHalt, .ok, [2, 1, byte p.waitingCount, byte p.newlyFlushed]⟩ := by
  subst hm
  simp only [answerResume, hb, if_neg (not_not.2 hl), hc]
  rfl

end

end Part

/-- Settles O9: the test is R163's list; FLUSH is the queue's part and then the spoils of the records in opening order. -/
theorem resumeCompletes : Obligations.ResumeCompletes := by
  refine ⟨Part.resumeCondition_eq, ?_⟩
  intro s it p hex waits spoils ended flushed
  refine ⟨fun hb hl hc => ?_, fun hb hl hc => ?_, fun m hb hl => ?_, fun l hb hl => ?_, fun m hb hl h1 h2 => ?_,
    fun m c hb hm hl hc => ?_⟩
  · exact resumeRow.gives hex (code_cons hb) (Part.resume_continues (p := p.popCommand) hb hl rfl hc)
  · refine ⟨p.popCommand.flushWaiting.leaveHalt,
      resumeRow.gives hex (code_cons hb) (Part.resume_flushes (p := p.popCommand) hb hl rfl hc), ?_,
      Part.flushWaiting_patterns p.popCommand, Part.flushWaiting_tailBook p.popCommand, fun hpock hsound => ?_⟩
    · unfold Part.leaveHalt
      rw [Part.flushWaiting_blocks]
      rfl
    · have hkept : p.Kept := (Part.kept_of_claims hpock hsound).1
      obtain ⟨hrec, hend, hreq, hpocket, hstaged⟩ := Part.flushWaiting_takes (p := p.popCommand)
        (hkept.same rfl rfl rfl rfl (.inl rfl) (fun _ => rfl) rfl)
      have hflushed (b : Book) : flushed b = Part.flushedBook b := by
        unfold Part.flushedBook
        rw [Part.tested_lowered rfl, Part.tested_lowered rfl]
        rfl
      have hone (b : Book) (hb : b ∈ p.books.records) :
          (if b.number ∈ (p.books.records.filter Part.flushable).map Book.number then b.taken .flushed true else b) =
            flushed b :=
        (if_congr (hkept.number_mem_filter Part.flushable hb) rfl rfl).trans ((Part.flushed_taken b).trans (hflushed b).symm)
      have hstaged' : p.popCommand.flushWaiting.closer.staged =
          p.closer.staged.filter fun g => !p.books.records.any fun b => spoils b && b.id == g.id := by
        rw [hstaged]
        refine congrArg (Option.filter · p.closer.staged) (funext fun g => ?_)
        rw [List.any_filter]
        refine congrArg (fun f => !p.books.records.any f) (funext fun b => ?_)
        rw [← Bool.and_assoc, Bool.and_comm (Part.flushable b), (Part.flushable_picks b).1]
        rfl
      refine ⟨hrec.trans (List.map_congr_left hone), ?_, fun k => ?_, ?_, fun g hg => ?_, fun hg => ?_,
        Part.flushWaiting_closer_blocks p.popCommand⟩
      · refine hend.trans (congrArg (fun l : List Book => p.books.endOrder ++ l.map Book.id) ?_)
        rw [List.filter_filter]
        refine List.filter_congr fun b _ => ?_
        rw [hflushed]
        exact Part.endsIn_flushed b
      · exact (hpocket k).trans (if_congr (hkept.pocket_flushed k) rfl rfl)
      · refine hreq.trans (congrArg (fun l : List Book => p.closer.requests ++ l.filterMap Book.pocket) ?_)
        rw [List.filter_filter]
        exact List.filter_congr fun b _ => (Part.flushable_picks b).2
      · rw [show (p.popCommand.flushWaiting.leaveHalt).closer.staged = _ from hstaged', hg]
        cases h : p.books.records.any fun b => spoils b && b.id == g.id <;> simp [Option.filter, h]
      · exact hstaged'.trans (by rw [hg]; rfl)
  · exact resumeRow.gives hex (code_cons hb) (Part.resume_wrongState (p := p.popCommand) hb hl)
  · exact resumeRow.gives hex (code_cons hb) (Part.resume_badLength hb hl)
  · exact resumeRow.gives hex (code_cons hb) (Part.resume_badField (p := p.popCommand) hb hl h1 h2)
  · exact resumeRow.gives hex (code_cons hb) (Part.resume_condition (p := p.popCommand) hb hl hm hc)

end Sys2Proof.Machine
end

section
/-! SUPPORT. Halt entry on the books and the closer (R25, R49, R118, R156). -/

namespace Sys2Proof.Machine

/-- A record that a halt can spoil: it is neither SPOILED nor ENDED. -/
def Book.standing (b : Book) : Bool := b.fresh || b.state == .closing

theorem Book.standing_iff {b : Book} :
    b.standing = true ↔ b.state ∈ [BookState.opened, .filled, .ready, .closing] := by
  unfold Book.standing Book.fresh
  cases b.state <;> decide

theorem Book.tested_live {b : Book} (h : b.inQueue ≠ 0) : b.tested = b :=
  if_neg fun hm => h (Part.Book.mayEnd_iff.1 hm).2.2.1

theorem Book.taken_standing {b : Book} (hs : b.standing = true) (hq : b.inQueue ≠ 0) :
    b.taken .lineHalt false = Book.spoiledBy .lineHalt false b := by
  have hlive : (Book.spoiledBy .lineHalt false b).tested = Book.spoiledBy .lineHalt false b := Book.tested_live hq
  by_cases hf : b.fresh = true
  · rw [Book.taken_fresh hf, hlive]
  · have hc : b.state = .closing := by simpa [Book.standing, hf] using hs
    rw [Book.taken_closing hc, if_pos (.inr rfl), hlive]

namespace Part

/-- A halt's spoil of a record that is SPOILED or ENDED and has entries in the queue changes nothing. -/
theorem spoil_again {p : Part} {b : Book} (hb : p.book? b.number = some b) (hs : b.standing = false)
    (hq : b.inQueue ≠ 0) : p.spoil b.number .lineHalt false = p := by
  have hstate : b.state = .spoiled ∨ b.state = .ended := by
    unfold Book.standing Book.fresh at hs
    cases h : b.state <;> simp [h] at hs ⊢
  rcases hstate with h | h
  · have hlow : p.updateBook b.number (Book.lowered false) = p := by
      have hid : (p.books.records.map fun x => if x.number = b.number then Book.lowered false x else x) =
          p.books.records := by simp [Book.lowered]
      exact congrArg (fun l => { p with books := { p.books with records := l } }) hid
    rw [spoil_spoiled_eq _ _ hb h, hlow]
    unfold endTest
    rw [hb]
    exact if_neg fun hm => hq (Book.mayEnd_iff.1 hm).2.2.1
  · exact spoil_ended_eq _ _ hb h

/-- The spoils of a halt, entry by entry, are the spoils of the standing records that have such an entry. -/
theorem transit_takes (es : List Entry) {p : Part} (hp : p.Kept)
    (hes : ∀ e ∈ es, ∃ b ∈ p.books.records, b.number = e.book ∧ b.inQueue ≠ 0) :
    ∃ l : List Book, (l.map Book.number).Nodup ∧
      (∀ b, b ∈ l ↔ b ∈ p.books.records ∧ b.standing = true ∧ b.number ∈ es.map Entry.book) ∧
      Takes .lineHalt false l p (es.foldl (fun q e => q.spoil e.book .lineHalt false) p) := by
  induction es generalizing p with
  | nil => exact ⟨[], by simp, by simp, Takes.nil _ _ p⟩
  | cons e es ih =>
    obtain ⟨b, hb, hn, hq⟩ := hes e (by simp)
    have hfound := hp.book?_iff.2 ⟨hb, rfl⟩
    rw [List.foldl_cons, ← hn]
    cases hs : b.standing with
    | false =>
      rw [spoil_again hfound hs hq]
      obtain ⟨l, hl, hmem, htakes⟩ := ih hp fun x hx => hes x (List.mem_cons_of_mem e hx)
      refine ⟨l, hl, fun x => ?_, htakes⟩
      rw [hmem, List.map_cons, List.mem_cons]
      refine and_congr_right fun hx => and_congr_right fun hstand => (or_iff_right fun hxe => ?_).symm
      rw [hp.same_number hx hb (hxe.trans hn.symm), hs] at hstand
      exact absurd hstand (by simp)
    | true =>
      have hone := takes_one hp hfound .lineHalt false
      have htaken := Book.taken_standing hs hq
      have hin {x : Book} : x ∈ (p.spoil b.number .lineHalt false).books.records ↔
          (x ∈ p.books.records ∧ x.number ≠ b.number) ∨ x = Book.spoiledBy .lineHalt false b := by
        rw [hone.records, List.mem_map]
        constructor
        · rintro ⟨y, hy, rfl⟩
          by_cases hyb : y.number = b.number
          · rw [if_pos (by simp [hyb]), hp.same_number hy hb hyb]
            exact .inr htaken
          · rw [if_neg (by simpa using hyb)]
            exact .inl ⟨hy, hyb⟩
        · rintro (⟨hx, hxb⟩ | rfl)
          · exact ⟨x, hx, if_neg (by simpa using hxb)⟩
          · exact ⟨b, hb, by rw [if_pos (by simp), htaken]⟩
      obtain ⟨l, hl, hmem, htakes⟩ := ih (hp.spoil b.number .lineHalt false) fun x hx => by
        obtain ⟨y, hy, hyn, hyq⟩ := hes x (List.mem_cons_of_mem e hx)
        by_cases hyb : y.number = b.number
        · exact ⟨_, hin.2 (.inr rfl), hyb ▸ hyn, hq⟩
        · exact ⟨y, hin.2 (.inl ⟨hy, hyb⟩), hyn, hyq⟩
      have hmem' (x : Book) : x ∈ l ↔
          x ∈ p.books.records ∧ x.number ≠ b.number ∧ x.standing = true ∧ x.number ∈ es.map Entry.book := by
        rw [hmem, hin]
        constructor
        · rintro ⟨⟨hx, hxb⟩ | rfl, hstand, hxe⟩
          · exact ⟨hx, hxb, hstand, hxe⟩
          · exact absurd hstand (by simp [Book.standing, Book.fresh, Book.spoiledBy, Book.enter])
        · exact fun ⟨hx, hxb, hstand, hxe⟩ => ⟨.inl ⟨hx, hxb⟩, hstand, hxe⟩
      have hout : b.number ∉ l.map Book.number := by
        rw [List.mem_map]
        rintro ⟨x, hx, hxb⟩
        exact ((hmem' x).1 hx).2.1 hxb
      refine ⟨b :: l, List.nodup_cons.2 ⟨hout, hl⟩, fun x => ?_, hone.cons htakes hout⟩
      rw [List.mem_cons, hmem', List.map_cons, List.mem_cons, ← hn]
      constructor
      · rintro (rfl | ⟨hx, hxb, hstand, hxe⟩)
        · exact ⟨hb, hs, .inl rfl⟩
        · exact ⟨hx, hstand, .inr hxe⟩
      · rintro ⟨hx, hstand, hxe⟩
        by_cases hxb : x.number = b.number
        · exact .inl (hp.same_number hx hb hxb)
        · exact .inr ⟨hx, hxb, hstand, hxe.resolve_left hxb⟩

/-! ### The closer breaks its cycle off -/

/-- The closer is in a bind or in a dump. -/
def cycleStops (p : Part) : Bool := bindState p.closer.state || p.closer.state == .dump

/-- The cycle that a halt breaks off. -/
def cycleBrokenOff (p : Part) : List Current := if p.cycleStops then p.closer.current.toList else []

theorem pocket_returnPocket (k j : PocketId) (p : Part) : (p.returnPocket k).pocket j =
    if j = k then { p.pocket k with state := .dumpWait } else p.pocket j := by
  unfold returnPocket
  rw [pocket_requests, pocket_movePocket]

/-- The closer without its active count. -/
def unloaded (p : Part) : Part := p.onCloser fun c => { c with active := none }

theorem haltCloser_bind {p : Part} {cur : Current} (h : bindState p.closer.state = true)
    (hc : p.closer.current = some cur) : p.haltCloser =
      ((p.unloaded.spoil cur.book .lineHalt false).returnPocket cur.pocket).idleCloser := by
  unfold haltCloser
  dsimp only
  rw [if_pos h, hc]
  rfl

theorem haltCloser_dump {p : Part} {cur : Current} (h : p.closer.state = .dump)
    (hc : p.closer.current = some cur) : p.haltCloser = (p.unloaded.returnPocket cur.pocket).idleCloser := by
  unfold haltCloser
  dsimp only
  rw [if_neg (by simp [h, bindState]), if_pos h, hc]
  rfl

theorem haltCloser_none {p : Part} (h : p.cycleStops = true) (hc : p.closer.current = none) :
    p.haltCloser = p.unloaded.idleCloser := by
  unfold haltCloser
  dsimp only
  rw [hc]
  split
  · rfl
  · next hb => exact if_pos (by simpa [cycleStops, hb] using h)

theorem haltCloser_rests {p : Part} (h : p.cycleStops = false) : p.haltCloser = p.unloaded := by
  simp only [cycleStops, Bool.or_eq_false_iff, beq_eq_false_iff_ne] at h
  unfold haltCloser
  dsimp only
  rw [if_neg (by simp [h.1]), if_neg h.2]
  rfl

theorem cycleReturned_closer (k : PocketId) (p : Part) : (p.returnPocket k).idleCloser.closer = { p.closer with
    state := .idle, current := none, deadline := none
    pocketA := (p.returnPocket k).idleCloser.closer.pocketA, pocketB := (p.returnPocket k).idleCloser.closer.pocketB
    requests := k :: p.closer.requests } := by
  cases k <;> rfl

@[simp] theorem cycleReturned_books (k : PocketId) (p : Part) : (p.returnPocket k).idleCloser.books = p.books := by
  simp [returnPocket]

theorem haltCloser_closer_blocks (p : Part) : p.haltCloser.closer = { p.closer with
    state := if p.cycleStops then .idle else p.closer.state
    current := if p.cycleStops then none else p.closer.current
    deadline := if p.cycleStops then none else p.closer.deadline, active := none
    pocketA := p.haltCloser.closer.pocketA, pocketB := p.haltCloser.closer.pocketB
    requests := p.haltCloser.closer.requests, staged := p.haltCloser.closer.staged } := by
  cases h : p.cycleStops with
  | false => rw [haltCloser_rests h]; rfl
  | true =>
    cases hc : p.closer.current with
    | none => rw [haltCloser_none h hc]; rfl
    | some cur =>
      by_cases hb : bindState p.closer.state = true
      · rw [haltCloser_bind hb hc, cycleReturned_closer, spoil_closer_blocks]
        rfl
      · have hd : p.closer.state = .dump := by simpa [cycleStops, hb] using h
        rw [haltCloser_dump hd hc, cycleReturned_closer]
        rfl

/-- A record at the closer's part of a halt: the book of a bind that is broken off is SPOILED. -/
def unbound (p : Part) (b : Book) : Book :=
  if b.state = .closing ∧ b.number ∈ p.cycleBrokenOff.map Current.book then Book.spoiledBy .lineHalt false b else b

/-- What the closer's part of a halt makes of the books, the pockets and the request list. -/
structure CycleBrokenOff (p q : Part) : Prop where
  records : q.books.records = p.books.records.map p.unbound
  endOrder : q.books.endOrder = p.books.endOrder
  requests : q.closer.requests = p.cycleBrokenOff.map Current.pocket ++ p.closer.requests
  pocket : ∀ k, q.pocket k =
    if k ∈ p.cycleBrokenOff.map Current.pocket then { p.pocket k with state := .dumpWait } else p.pocket k
  staged : q.closer.staged = p.closer.staged

theorem cycleBrokenOff_some {p : Part} {cur : Current} (h : p.cycleStops = true) (hc : p.closer.current = some cur) :
    p.cycleBrokenOff = [cur] := by
  unfold cycleBrokenOff
  rw [if_pos h, hc]
  rfl

theorem map_unbound_kept {p : Part} (h : ∀ b ∈ p.books.records, b.number ∈ p.cycleBrokenOff.map Current.book →
    b.state ≠ .closing) : p.books.records.map p.unbound = p.books.records := by
  conv_rhs => rw [← List.map_id p.books.records]
  exact List.map_congr_left fun b hb => if_neg fun ⟨hs, hn⟩ => h b hb hn hs

theorem haltCloser_brokenOff {p : Part} (hp : p.Kept) (hc : p.CloserAgrees) : CycleBrokenOff p p.haltCloser := by
  have hpocket (k : PocketId) : p.unloaded.pocket k = p.pocket k := pocket_congr rfl rfl k
  cases hstop : p.cycleStops with
  | false =>
    have hnone : p.cycleBrokenOff = [] := if_neg (by simp [hstop])
    rw [haltCloser_rests hstop]
    exact ⟨(map_unbound_kept (p := p) fun b _ h => by simp [hnone] at h).symm, rfl, by rw [hnone]; rfl,
      fun k => by simp [hnone, hpocket], rfl⟩
  | true =>
    have hbusy : p.closer.state ≠ .idle := by
      intro h
      simp [cycleStops, h, bindState] at hstop
    obtain ⟨cur, b, hcur, hown, hb, hbind, hdump, -⟩ := hc.2 hbusy
    have hlist := cycleBrokenOff_some hstop hcur
    by_cases hs : bindState p.closer.state = true
    · obtain ⟨hst, hclosing⟩ := hbind hs
      obtain ⟨hk, -⟩ := hp.closer_book (by simp [hst]) hown hb
      have hn : b.number = cur.book := book?_number hb
      have hspoil : p.unloaded.spoil cur.book .lineHalt false =
          p.unloaded.updateBook cur.book (Book.spoiledBy .lineHalt false) := by
        rw [spoil_closing_eq _ _ (show p.unloaded.book? cur.book = some b from hb) hclosing, if_pos (.inr rfl)]
        refine endTest_kept_of_pocket (b := Book.spoiledBy .lineHalt false b) ?_ (by simp [Book.spoiledBy, Book.enter, hk])
        rw [book?_updateBook _ _ _ fun x => (Book.spoiledBy_fields _ _ x).1, if_pos rfl,
          show p.unloaded.book? cur.book = some b from hb]
        rfl
      rw [haltCloser_bind hs hcur, hspoil]
      refine ⟨?_, by rw [cycleReturned_books]; rfl, ?_, fun k => ?_, ?_⟩
      · rw [cycleReturned_books]
        refine List.map_congr_left fun x hx => if_congr ?_ rfl rfl
        rw [hlist]
        constructor
        · intro hxn
          have hxb : x = b := Option.some.inj ((hp.book?_iff.2 ⟨hx, hxn⟩).symm.trans hb)
          exact ⟨hxb ▸ hclosing, by simp [hxn]⟩
        · rintro ⟨-, hxn⟩
          simpa using hxn
      · rw [cycleReturned_closer, hlist]
        rfl
      · rw [pocket_idleCloser, pocket_returnPocket, pocket_updateBook, pocket_updateBook, hpocket, hpocket, hlist]
        by_cases hkc : k = cur.pocket <;> simp [hkc]
      · rw [cycleReturned_closer]
        rfl
    · have hd : p.closer.state = .dump := by simpa [cycleStops, hs] using hstop
      rw [haltCloser_dump hd hcur]
      refine ⟨?_, by rw [cycleReturned_books]; rfl, ?_, fun k => ?_, ?_⟩
      · rw [cycleReturned_books]
        refine (map_unbound_kept (p := p) fun x hx hxn => ?_).symm
        rw [hlist] at hxn
        obtain ⟨y, hy, -, -, -, hys⟩ := hp.held hown
        have hxy : x = y := Option.some.inj ((hp.book?_iff.2 ⟨hx, by simpa using hxn⟩).symm.trans hy)
        rw [hdump hd, ← hxy] at hys
        have hspoiled : x.state = .spoiled := by simpa [holders] using hys
        simp [hspoiled]
      · rw [cycleReturned_closer, hlist]
        rfl
      · rw [pocket_idleCloser, pocket_returnPocket, hpocket, hpocket, hlist]
        by_cases hkc : k = cur.pocket <;> simp [hkc]
      · rw [cycleReturned_closer]
        rfl

end Part

end Sys2Proof.Machine
end

section
/-! SUPPORT. Halt entry as a whole (R154 to R158). -/

namespace Sys2Proof.Machine

namespace Part

/-- How many leaves of a book a halt loses. -/
def transitOf (p : Part) (n : Nat) : Nat :=
  p.tracker.queue.countP fun e => e.stage != .waiting && e.stage != .done && !e.isVoid && e.book == n

/-- The halt spoils the record. -/
def haltStrikes (p : Part) (b : Book) : Bool :=
  b.state ∈ [BookState.opened, .filled, .ready, .closing] ∧
    (0 < p.transitOf b.number ∨ (b.state = .closing ∧ b.number ∈ p.cycleBrokenOff.map Current.book))

/-- A record with the leaves lost that were in transit. -/
def transitCounted (p : Part) (b : Book) : Book := { b with lost := b.lost + p.transitOf b.number }

/-- What a halt makes of a record. -/
def halted (p : Part) (b : Book) : Book :=
  if p.haltStrikes b then
    { p.transitCounted b with state := .spoiled, spoilReason := some .lineHalt, generation := b.generation + 1 }
  else p.transitCounted b

theorem inTransit_eq (e : Entry) : e.stage.inTransit = (e.stage != .waiting && e.stage != .done) := rfl

/-- The part past the reactions of the punch and the drill, before the closer's. -/
def stationsHalted (p : Part) : Part := (p.onSup fun u => { u with line := .halt }).haltPunch.haltDrill

theorem stationsHalted_blocks (p : Part) : p.stationsHalted.tracker = p.tracker ∧ p.stationsHalted.books = p.books ∧
    p.stationsHalted.closer = p.closer ∧ p.stationsHalted.port = p.port := by
  unfold stationsHalted
  exact ⟨by rw [haltDrill_tracker, haltPunch_tracker]; rfl, by simp, by simp, by simp⟩

theorem stopAll_blocks (p : Part) : p.stopAll.books = p.stationsHalted.haltCloser.loseTransit.books ∧
    p.stopAll.closer = p.stationsHalted.haltCloser.loseTransit.closer := ⟨rfl, rfl⟩

/-- The leaves in transit are lost, before their books are spoiled. -/
def transitLost (p : Part) : Part := p.finishAll (fun e => e.stage.inTransit) .lost

theorem transitLost_books (p : Part) : p.transitLost.books =
    { p.books with records := p.books.records.map p.transitCounted } := by
  refine (finishAll_lost_books _ p).trans ?_
  refine congrArg (fun f : Book → Book => { p.books with records := p.books.records.map f }) (funext fun b => ?_)
  refine congrArg (fun n => { b with lost := b.lost + n }) (congrArg (List.countP · p.tracker.queue) (funext fun e => ?_))
  simp only [inTransit_eq, countsIn, Bool.and_assoc]

theorem transitLost_closer (p : Part) : p.transitLost.closer = p.closer := finishAll_closer _ (by simp) p

/-- The entries whose books the halt spoils. -/
def transit (p : Part) : List Entry := p.tracker.queue.filter fun e => e.stage.inTransit && !e.isVoid

theorem loseTransit_eq (p : Part) : p.loseTransit =
    p.transit.foldl (fun q e => q.spoil e.book .lineHalt false) p.transitLost := rfl

theorem mem_transit_books {p : Part} {n : Nat} : n ∈ p.transit.map Entry.book ↔ 0 < p.transitOf n := by
  unfold transit transitOf
  rw [List.countP_pos_iff, List.mem_map]
  simp only [List.mem_filter, inTransit_eq, Bool.and_eq_true, beq_iff_eq]
  exact exists_congr fun e => by tauto

/-- A record with entries in the queue counts them. -/
theorem Kept.inQueue_pos {p : Part} (hp : p.Kept) {b : Book} (hb : b ∈ p.books.records) {e : Entry}
    (he : e ∈ p.tracker.queue) (hv : e.isVoid = false) (hn : e.book = b.number) : b.inQueue ≠ 0 := by
  have hpos : 0 < p.inQueueOf b.number := by
    rw [inQueueOf_eq, List.countP_pos_iff]
    exact ⟨e, he, by simp [countsIn, hv, hn]⟩
  obtain ⟨-, -, -, hcount, -⟩ := (hp.fits b hb).sound
  omega

/-- The records that a halt spoils for their leaves in transit. -/
theorem loseTransit_takes {p : Part} (hp : p.Kept) : ∃ l : List Book, (l.map Book.number).Nodup ∧
    (∀ b, b ∈ l ↔ b ∈ p.transitLost.books.records ∧ b.standing = true ∧ 0 < p.transitOf b.number) ∧
    (∀ b ∈ l, b.inQueue ≠ 0) ∧ Takes .lineHalt false l p.transitLost p.loseTransit := by
  have hkept : p.transitLost.Kept := kept_finishLost (pick := Stage.inTransit) hp rfl
  have hlive : ∀ e ∈ p.transit, ∀ b ∈ p.books.records, b.number = e.book → b.inQueue ≠ 0 := by
    intro e he b hb hn
    obtain ⟨hq, hpick⟩ := List.mem_filter.1 he
    exact hp.inQueue_pos hb hq (by simpa using (Bool.and_eq_true_iff.1 hpick).2) hn.symm
  have hrec (x : Book) : x ∈ p.transitLost.books.records ↔ ∃ b ∈ p.books.records, p.transitCounted b = x := by
    rw [transitLost_books, List.mem_map]
  obtain ⟨l, hl, hmem, htakes⟩ := transit_takes p.transit hkept fun e he => by
    obtain ⟨hq, hpick⟩ := List.mem_filter.1 he
    obtain ⟨b, hb, hn⟩ := hp.entry e hq (by simpa using (Bool.and_eq_true_iff.1 hpick).2)
    exact ⟨p.transitCounted b, (hrec _).2 ⟨b, hb, rfl⟩, hn, hlive e he b hb hn⟩
  refine ⟨l, hl, fun b => ?_, fun b hb => ?_, htakes⟩
  · rw [hmem, mem_transit_books]
  · obtain ⟨hx, -, hxe⟩ := (hmem b).1 hb
    obtain ⟨e, he, hn⟩ := List.mem_map.1 hxe
    obtain ⟨y, hy, rfl⟩ := (hrec b).1 hx
    exact hlive e he y hy hn.symm

end Part

end Sys2Proof.Machine
end

section
/-! SUPPORT. What a halt leaves of the books and the pockets (R156). -/

namespace Sys2Proof.Machine

namespace Part

theorem CycleBrokenOff.congr {p p' q : Part} (h : CycleBrokenOff p' q) (hb : p'.books = p.books)
    (hc : p'.closer = p.closer) : CycleBrokenOff p q := by
  have hpocket (k : PocketId) : p'.pocket k = p.pocket k := pocket_congr (by rw [hc]) (by rw [hc]) k
  have hlist : p'.cycleBrokenOff = p.cycleBrokenOff := by
    unfold cycleBrokenOff cycleStops
    rw [hc]
  have hmap : p'.unbound = p.unbound := by
    funext b
    unfold unbound
    rw [hlist]
  obtain ⟨hrec, hend, hreq, hpock, hstaged⟩ := h
  rw [hb, hmap] at hrec
  rw [hb] at hend
  rw [hc, hlist] at hreq
  rw [hc] at hstaged
  simp only [hlist, hpocket] at hpock
  exact ⟨hrec, hend, hreq, hpock, hstaged⟩

/-- The part behind the station's reactions, as the books and the closer see it. -/
theorem haltStations_books {p : Part} (hp : p.Kept) (hc : p.CloserAgrees) :
    CycleBrokenOff p p.stationsHalted.haltCloser ∧ p.stationsHalted.haltCloser.Kept ∧
      p.stationsHalted.haltCloser.tracker = p.tracker := by
  obtain ⟨htracker, hbooks, hcloser, hport⟩ := stationsHalted_blocks p
  have hpocket (k : PocketId) : p.stationsHalted.pocket k = p.pocket k :=
    pocket_congr (by rw [hcloser]) (by rw [hcloser]) k
  have hkept : p.stationsHalted.Kept := hp.same (by rw [hbooks]) (by rw [hbooks]) (by rw [htracker]) (by rw [htracker])
    (.inl (by rw [hport])) hpocket (by rw [hcloser])
  have hagrees : p.stationsHalted.CloserAgrees := hc.same (by rw [hcloser]) (by rw [hcloser]) hpocket (by rw [hbooks])
  exact ⟨(haltCloser_brokenOff hkept hagrees).congr hbooks hcloser, (kept_haltCloser hkept hagrees).1,
    by rw [(haltCloser_frame _).2.2.1, htracker]⟩

/-- A book with a leaf in transit waits for it (R36). -/
theorem Kept.transit_open {p : Part} (hp : p.Kept) {b : Book} (hb : b ∈ p.books.records)
    (ht : 0 < p.transitOf b.number) : b.state ≠ .closing := by
  intro hs
  have hopen : 0 < p.openOf b.number := by
    refine ht.trans_le (List.countP_mono_left fun e _ he => ?_)
    simp only [Bool.and_eq_true] at he ⊢
    exact ⟨⟨he.1.2, he.1.1.2⟩, he.2⟩
  obtain ⟨hsum, -, -, -, -, hadmitted, hgathered, -⟩ := (hp.fits b hb).sound
  have := hadmitted (by simp [hs])
  have := hgathered (by simp [hs])
  omega

theorem Kept.haltStrikes_iff {p : Part} (hp : p.Kept) {b : Book} (hb : b ∈ p.books.records) :
    p.haltStrikes b = true ↔ (b.fresh = true ∧ 0 < p.transitOf b.number) ∨
      (b.state = .closing ∧ b.number ∈ p.cycleBrokenOff.map Current.book) := by
  unfold haltStrikes
  rw [decide_eq_true_iff, ← Book.standing_iff]
  unfold Book.standing
  rw [Bool.or_eq_true, beq_iff_eq]
  constructor
  · rintro ⟨hs, ht | hbroken⟩
    · exact .inl ⟨hs.resolve_right (hp.transit_open hb ht), ht⟩
    · exact .inr hbroken
  · rintro (⟨hf, ht⟩ | hbroken)
    · exact ⟨.inl hf, .inl ht⟩
    · exact ⟨.inr hbroken.1, .inr hbroken⟩

/-- The cycle that a halt breaks off has the pocket of its book. -/
theorem CloserAgrees.broken_pocket {p : Part} (hc : p.CloserAgrees) {cur : Current} (h : cur ∈ p.cycleBrokenOff) :
    (p.pocket cur.pocket).book = some cur.book := by
  unfold cycleBrokenOff at h
  split at h
  · have hcur : p.closer.current = some cur := by simpa using h
    have hbusy : p.closer.state ≠ .idle := fun hidle => by simp [hc.1 hidle] at hcur
    obtain ⟨x, -, hx, hown, -⟩ := hc.2 hbusy
    rwa [Option.some.inj (hcur.symm.trans hx)]
  · simp at h

theorem unbound_broken {p : Part} {b : Book}
    (h : b.state = .closing ∧ b.number ∈ p.cycleBrokenOff.map Current.book) :
    p.unbound b = Book.spoiledBy .lineHalt false b := if_pos h

theorem unbound_kept {p : Part} {b : Book}
    (h : ¬(b.state = .closing ∧ b.number ∈ p.cycleBrokenOff.map Current.book)) : p.unbound b = b := if_neg h

theorem unbound_number (p : Part) (b : Book) : (p.unbound b).number = b.number := by
  unfold unbound
  split
  · exact (Book.spoiledBy_fields _ _ b).1
  · rfl

/-- The books and the closer behind halt entry: the closer's cycle is broken off, then the records of `l` are taken. -/
structure HaltTakes (p q : Part) (l : List Book) : Prop where
  mem : ∀ x, x ∈ l ↔ ∃ b ∈ p.books.records, p.transitCounted b = x ∧ b.fresh = true ∧ 0 < p.transitOf b.number
  records : q.books.records = p.books.records.map p.halted
  endOrder : q.books.endOrder = p.books.endOrder
  requests : q.closer.requests = p.cycleBrokenOff.map Current.pocket ++ p.closer.requests ++
    (l.filter Book.gathers).filterMap Book.pocket
  pocket : ∀ k, q.pocket k =
    if (l.any fun b => b.fresh && b.pocket == some k) ∨ k ∈ p.cycleBrokenOff.map Current.pocket then
      { p.pocket k with state := .dumpWait }
    else p.pocket k
  staged : q.closer.staged = p.closer.staged.filter fun g => !l.any fun b => b.fresh && b.id == g.id

theorem stopAll_takes {p : Part} (hp : p.Kept) (hc : p.CloserAgrees) : ∃ l, HaltTakes p p.stopAll l := by
  obtain ⟨hbooks, hcloser⟩ := stopAll_blocks p
  obtain ⟨hbroken, hkept, htracker⟩ := haltStations_books hp hc
  generalize p.stationsHalted.haltCloser = r at hbooks hcloser hbroken hkept htracker
  obtain ⟨l, hl, hmem, hlive, htakes⟩ := loseTransit_takes hkept
  have hcount : r.transitOf = p.transitOf := by
    unfold transitOf
    rw [htracker]
  have hcounted : r.transitCounted = p.transitCounted := by
    unfold transitCounted
    rw [hcount]
  have hrec : r.transitLost.books.records = p.books.records.map fun b => p.transitCounted (p.unbound b) := by
    rw [transitLost_books, hbroken.records, hcounted, List.map_map]
    rfl
  have hfresh {b : Book} (hb : b.fresh = true) : p.unbound b = b :=
    if_neg fun h => by simp [Book.fresh, h.1] at hb
  have hmem' (x : Book) : x ∈ l ↔
      ∃ b ∈ p.books.records, p.transitCounted b = x ∧ b.fresh = true ∧ 0 < p.transitOf b.number := by
    rw [hmem, hrec, hcount, List.mem_map]
    constructor
    · rintro ⟨⟨b, hb, rfl⟩, hstand, ht⟩
      by_cases h : b.state = .closing ∧ b.number ∈ p.cycleBrokenOff.map Current.book
      · rw [unbound_broken h] at hstand
        exact absurd hstand (by simp [transitCounted, Book.standing, Book.fresh, Book.spoiledBy, Book.enter])
      · rw [unbound_kept h] at hstand ht ⊢
        have hopen : b.state ≠ .closing := hp.transit_open hb ht
        exact ⟨b, hb, rfl, by simpa [transitCounted, Book.standing, Book.fresh, hopen] using hstand, ht⟩
    · rintro ⟨b, hb, rfl, hf, ht⟩
      exact ⟨⟨b, hb, by rw [hfresh hf]⟩, by simpa [Book.standing] using .inl hf, ht⟩
  have hnum (b : Book) (hb : b ∈ p.books.records) :
      b.number ∈ l.map Book.number ↔ b.fresh = true ∧ 0 < p.transitOf b.number := by
    rw [List.mem_map]
    constructor
    · rintro ⟨x, hx, hn⟩
      obtain ⟨y, hy, rfl, ht⟩ := (hmem' x).1 hx
      rwa [hp.same_number hy hb hn] at ht
    · exact fun ht => ⟨_, (hmem' _).2 ⟨b, hb, rfl, ht⟩, rfl⟩
  refine ⟨l, hmem', ?_, ?_, ?_, fun k => ?_, ?_⟩
  · rw [hbooks, htakes.records, hrec, List.map_map]
    refine List.map_congr_left fun b hb => ?_
    rw [Function.comp_apply, show (p.transitCounted (p.unbound b)).number = b.number from unbound_number p b]
    have hstrikes := hp.haltStrikes_iff hb
    by_cases ht : b.fresh = true ∧ 0 < p.transitOf b.number
    · have hin : p.transitCounted b ∈ l := (hmem' _).2 ⟨b, hb, rfl, ht⟩
      rw [if_pos ((hnum b hb).2 ht), hfresh ht.1, Book.taken_standing ((hmem _).1 hin).2.1 (hlive _ hin)]
      exact (if_pos (hstrikes.2 (.inl ht))).symm
    · rw [if_neg fun h => ht ((hnum b hb).1 h)]
      by_cases h : b.state = .closing ∧ b.number ∈ p.cycleBrokenOff.map Current.book
      · rw [unbound_broken h]
        exact (if_pos (hstrikes.2 (.inr h))).symm
      · rw [unbound_kept h]
        exact (if_neg fun hs => (hstrikes.1 hs).elim ht h).symm
  · rw [hbooks, htakes.endOrder, transitLost_books, hbroken.endOrder]
    have hnone : l.filter (Book.endsIn .lineHalt false) = [] := by
      refine List.filter_eq_nil_iff.2 fun x hx => ?_
      unfold Book.endsIn
      rw [Book.taken_standing ((hmem x).1 hx).2.1 (hlive x hx)]
      simp [Book.spoiledBy, Book.enter]
    rw [hnone]
    exact List.append_nil _
  · rw [hcloser, htakes.requests, transitLost_closer, hbroken.requests]
  · have hpocket : p.stopAll.pocket k = r.loseTransit.pocket k := pocket_congr (by rw [hcloser]) (by rw [hcloser]) k
    have hlost : r.transitLost.pocket k = r.pocket k :=
      pocket_congr (by rw [transitLost_closer]) (by rw [transitLost_closer]) k
    rw [hpocket, htakes.pocket, hlost, hbroken.pocket]
    by_cases h : k ∈ p.cycleBrokenOff.map Current.pocket <;> simp [h]
  · rw [hcloser, htakes.staged, transitLost_closer, hbroken.staged]

end Part

end Sys2Proof.Machine
end

section
/-! SUPPORT. The halt record's resume point, and halt entry (R154 to R158). -/

namespace Sys2Proof.Machine

namespace Part

section
variable {p q : Part} {l : List Book} (hp : p.Kept) (h : HaltTakes p q l)
include hp h

/-- The resume point is the first record that the halt spoils (R156). -/
theorem HaltTakes.resume : newlyHalted p q =
    (p.books.records.find? p.haltStrikes).map fun b => ⟨b.number, b.openingSeq⟩ := by
  have hfields (b : Book) : (p.halted b).id = b.id ∧ (p.halted b).number = b.number ∧
      (p.halted b).openingSeq = b.openingSeq := by
    unfold halted
    split <;> exact ⟨rfl, rfl, rfl⟩
  have hnew : ∀ b ∈ p.books.records, ((p.halted b).spoilReason == some .lineHalt &&
      (p.recordById? (p.halted b).id).any fun o => o.spoilReason == none) = p.haltStrikes b := by
    intro b hb
    rw [(hfields b).1, hp.recordById?_iff.2 ⟨hb, rfl⟩]
    obtain ⟨-, -, -, -, -, -, -, -, -, hreason⟩ := (hp.fits b hb).sound
    cases hs : p.haltStrikes b with
    | true =>
      have hstand : b.state ∈ [BookState.opened, .filled, .ready, .closing] := by
        unfold haltStrikes at hs
        exact (of_decide_eq_true hs).1
      have hhalted : (p.halted b).spoilReason = some .lineHalt := by
        unfold halted
        rw [if_pos hs]
      simp [hhalted, hreason.2 (.inl hstand)]
    | false =>
      have hhalted : (p.halted b).spoilReason = b.spoilReason := by
        unfold halted
        rw [if_neg (by simp [hs])]
        rfl
      rw [hhalted]
      cases hr : b.spoilReason <;> simp [hr]
  unfold newlyHalted
  rw [h.records, List.find?_map, Option.map_map]
  refine congrArg₂ Option.map (funext fun b => ?_) (List.find?_congr hnew)
  rw [Function.comp_apply, (hfields b).2.1, (hfields b).2.2]

theorem HaltTakes.requests_spec (hn : q.closer.requests.Nodup) :
    ∃ l, q.closer.requests = p.cycleBrokenOff.map Current.pocket ++ p.closer.requests ++ l ∧ l.Nodup ∧
      ∀ k, k ∈ l ↔ ∃ b ∈ p.books.records, b.pocket = some k ∧ (p.pocket k).state = .gathering ∧
        p.haltStrikes b = true := by
  refine ⟨_, h.requests, (h.requests ▸ hn).of_append_right, fun k => ?_⟩
  simp only [List.mem_filterMap, List.mem_filter, h.mem]
  constructor
  · rintro ⟨_, ⟨⟨b, hb, rfl, hf, ht⟩, hg⟩, hk⟩
    exact ⟨b, hb, hk, (hp.fresh_gathers (hp.book?_iff.2 ⟨hb, rfl⟩) hk hf).2 hg, (hp.haltStrikes_iff hb).2 (.inl ⟨hf, ht⟩)⟩
  · rintro ⟨b, hb, hk, hg, hs⟩
    have hhold := (hp.fits b hb).holder k hk
    have hstate : b.state = .opened ∨ b.state = .filled := by simpa [hg, holders] using hhold
    have hopen : b.state ≠ .closing := by rcases hstate with hst | hst <;> simp [hst]
    obtain ⟨hf, ht⟩ := ((hp.haltStrikes_iff hb).1 hs).resolve_right fun hc => hopen hc.1
    exact ⟨_, ⟨⟨b, hb, rfl, hf, ht⟩, (hp.fresh_gathers (hp.book?_iff.2 ⟨hb, rfl⟩) hk hf).1 hg⟩, hk⟩

theorem HaltTakes.staged_spec : q.closer.staged = p.closer.staged.filter fun g =>
    !p.books.records.any fun b => p.haltStrikes b && b.state != .closing && b.id == g.id := by
  rw [h.staged]
  refine congrArg (Option.filter · p.closer.staged) (funext fun g => congrArg (!·) ?_)
  rw [Bool.eq_iff_iff, List.any_eq_true, List.any_eq_true]
  simp only [Bool.and_eq_true, beq_iff_eq, bne_iff_ne]
  constructor
  · rintro ⟨x, hx, hf, hi⟩
    obtain ⟨b, hb, rfl, hfresh, ht⟩ := (h.mem x).1 hx
    exact ⟨b, hb, ⟨(hp.haltStrikes_iff hb).2 (.inl ⟨hfresh, ht⟩), hp.transit_open hb ht⟩, hi⟩
  · rintro ⟨b, hb, ⟨hs, hopen⟩, hi⟩
    obtain ⟨hf, ht⟩ := ((hp.haltStrikes_iff hb).1 hs).resolve_right fun hc => hopen hc.1
    exact ⟨_, (h.mem _).2 ⟨b, hb, rfl, hf, ht⟩, hf, hi⟩

/-- A pocket moves for the record taken from it. -/
theorem HaltTakes.pocket_taken (k : PocketId) : (l.any fun b => b.fresh && b.pocket == some k) = true ↔
    ∃ b ∈ p.books.records, (p.pocket k).book = some b.number ∧ b.fresh = true ∧ 0 < p.transitOf b.number := by
  rw [List.any_eq_true]
  simp only [Bool.and_eq_true, beq_iff_eq]
  constructor
  · rintro ⟨x, hx, hf, hk⟩
    obtain ⟨b, hb, rfl, hfresh, ht⟩ := (h.mem x).1 hx
    exact ⟨b, hb, ((hp.fits b hb).link k).1 hk, hfresh, ht⟩
  · rintro ⟨b, hb, hk, hf, ht⟩
    exact ⟨_, (h.mem _).2 ⟨b, hb, rfl, hf, ht⟩, hf, ((hp.fits b hb).link k).2 hk⟩

theorem HaltTakes.pocket_held (hc : p.CloserAgrees) {k : PocketId} {b : Book} (hb : p.book? b.number = some b)
    (hk : (p.pocket k).book = some b.number) (hout : k ∉ p.cycleBrokenOff.map Current.pocket) : q.pocket k =
      if p.haltStrikes b then { p.pocket k with state := .dumpWait } else p.pocket k := by
  obtain ⟨hmem, -⟩ := hp.book?_iff.1 hb
  rw [h.pocket]
  refine if_congr ?_ rfl rfl
  rw [or_iff_left hout, h.pocket_taken hp, hp.haltStrikes_iff hmem]
  constructor
  · rintro ⟨x, hx, hxk, hf, ht⟩
    rw [hp.same_number hx hmem (Option.some.inj (hxk.symm.trans hk))] at hf ht
    exact .inl ⟨hf, ht⟩
  · rintro (⟨hf, ht⟩ | ⟨-, hbroken⟩)
    · exact ⟨b, hmem, hk, hf, ht⟩
    · obtain ⟨cur, hcur, hn⟩ := List.mem_map.1 hbroken
      have hown := hc.broken_pocket hcur
      rw [hn] at hown
      have hsame : k = cur.pocket := Option.some.inj ((((hp.fits b hmem).link k).2 hk).symm.trans
        (((hp.fits b hmem).link cur.pocket).2 hown))
      exact absurd (hsame ▸ List.mem_map_of_mem hcur) hout

theorem HaltTakes.pocket_free (hc : p.CloserAgrees) {k : PocketId} (hk : (p.pocket k).book = none) :
    q.pocket k = p.pocket k := by
  rw [h.pocket, if_neg]
  rintro (htaken | hbroken)
  · obtain ⟨b, -, hb, -⟩ := (h.pocket_taken hp k).1 htaken
    simp [hk] at hb
  · obtain ⟨cur, hcur, rfl⟩ := List.mem_map.1 hbroken
    simp [hc.broken_pocket hcur] at hk

end

theorem HaltTakes.pocket_returned {p q : Part} {l : List Book} (h : HaltTakes p q l) (hc : p.CloserAgrees) {cur : Current}
    (hcur : cur ∈ p.cycleBrokenOff) : q.pocket cur.pocket = ⟨.dumpWait, some cur.book⟩ := by
  rw [h.pocket, if_pos (.inr (List.mem_map_of_mem hcur))]
  dsimp only
  rw [hc.broken_pocket hcur]

/-! ### The blocks of halt entry -/

theorem stopAll_closer_blocks (p : Part) : p.stopAll.closer = { p.closer with
    state := if p.cycleStops then .idle else p.closer.state
    current := if p.cycleStops then none else p.closer.current
    deadline := if p.cycleStops then none else p.closer.deadline, active := none
    pocketA := p.stopAll.closer.pocketA, pocketB := p.stopAll.closer.pocketB
    requests := p.stopAll.closer.requests, staged := p.stopAll.closer.staged } := by
  have hcloser : p.stationsHalted.closer = p.closer := (stationsHalted_blocks p).2.2.1
  have hstops : p.stationsHalted.cycleStops = p.cycleStops := by
    unfold cycleStops
    rw [hcloser]
  rw [(stopAll_blocks p).2, loseTransit_eq, spoils_closer_blocks, transitLost_closer, haltCloser_closer_blocks, hcloser,
    hstops]

theorem haltCloser_tailBook (p : Part) : p.haltCloser.books.tailBook = p.books.tailBook := by
  cases h : p.cycleStops with
  | false => rw [haltCloser_rests h]; rfl
  | true =>
    cases hc : p.closer.current with
    | none => rw [haltCloser_none h hc]; rfl
    | some cur =>
      by_cases hb : bindState p.closer.state = true
      · rw [haltCloser_bind hb hc, cycleReturned_books, spoil_tailBook]
        rfl
      · have hd : p.closer.state = .dump := by simpa [cycleStops, hb] using h
        rw [haltCloser_dump hd hc, cycleReturned_books]
        rfl

theorem stopAll_tailBook (p : Part) : p.stopAll.books.tailBook = p.books.tailBook := by
  rw [(stopAll_blocks p).1, loseTransit_eq,
    foldl_keeps _ (fun q : Part => q.books.tailBook) fun q (e : Entry) => spoil_tailBook e.book _ _ q,
    transitLost_books]
  exact (haltCloser_tailBook _).trans (by rw [(stationsHalted_blocks p).2.1])

end Part

/-- Settles O49: the stations first, then the records whose leaves were in transit; in HALT the secondary record alone. -/
theorem haltEntryEffects : Obligations.HaltEntryEffects := by
  intro p c w q hit stopped broken struck counted after due drawn cycleEnds
  refine ⟨fun hl => ?_, fun hl => ⟨fun hs => ?_, fun hs => ?_⟩⟩
  · have hq : q = p.enterHalt c w := Part.raise_outside_halt hl
    obtain ⟨htracker, hbooks, hpatterns, -, -, hcloser⟩ := Part.enterHalt_blocks c w p
    rw [← hq] at htracker hbooks hpatterns hcloser
    have hsup : q.sup = _ := (congrArg Part.sup hq).trans (Part.enterHalt_sup c w p)
    refine ⟨?_, ?_, ?_, fun h => ?_, fun h => ?_, fun h hu => ?_, fun i => ?_, ?_, ?_, fun n hn => ?_, ?_,
      fun hpock hsound => ?_, ?_⟩
    · rw [hsup]
    · rw [htracker, Part.stopAll_tracker]
      refine congrArg (fun f : Entry → Entry => { p.tracker with expected := none, queue := p.tracker.queue.map f })
        (funext fun e => ?_)
      cases hs : e.stage <;> simp [Stage.inTransit]
    · refine ⟨_, _, congrArg Supervisor.haltRecord hsup, congrArg Supervisor.notice hsup, rfl, rfl, rfl, rfl, rfl, rfl,
        rfl, rfl, rfl, rfl, fun hpock hsound => ?_⟩
      obtain ⟨hkept, hagrees⟩ := Part.kept_of_claims hpock hsound
      obtain ⟨l, htakes⟩ := Part.stopAll_takes hkept hagrees
      exact htakes.resume hkept
    · rw [show q.punch = p.haltPunch.punch from Part.raise_punch hl c w, Part.haltPunch_kept h]
    · rw [show q.punch = p.haltPunch.punch from Part.raise_punch hl c w, Part.haltPunch_withdrawn h]
      rfl
    · rw [show q.punch = p.haltPunch.punch from Part.raise_punch hl c w, Part.haltPunch_returns h hu]
      rfl
    · have hspindle : q.spindle i = p.haltDrill.spindle i :=
        congrArg (fun d : Drill => d.spindles.get i) (Part.raise_drill hl c w)
      rw [hspindle, Part.haltDrill_spindle, Part.drawnUp_cycleOver]
      rfl
    · rw [show q.drill = p.haltDrill.drill from Part.raise_drill hl c w, Part.haltDrill_drill, Part.drawnUp_cycleOver]
      rfl
    · rw [hcloser, Part.stopAll_closer_blocks]
      rfl
    · exact ⟨(Part.pattern?_congr hpatterns n).trans (Part.stopAll_pattern? p n),
        (Part.useCount_congr hpatterns n).trans (Part.stopAll_useCount p hn)⟩
    · rw [hbooks, Part.stopAll_tailBook]
    · obtain ⟨hkept, hagrees⟩ := Part.kept_of_claims hpock hsound
      obtain ⟨l, htakes⟩ := Part.stopAll_takes hkept hagrees
      have hpocket (k : PocketId) : q.pocket k = p.stopAll.pocket k :=
        Part.pocket_congr (by rw [hcloser]) (by rw [hcloser]) k
      have hstaged := htakes.staged_spec hkept
      rw [hbooks, hcloser]
      simp only [hpocket]
      refine ⟨htakes.records, htakes.endOrder, fun cur hcur => htakes.pocket_returned hagrees hcur,
        fun k b hb hk hout => htakes.pocket_held hkept hagrees hb hk hout,
        fun k hk => htakes.pocket_free hkept hagrees hk, fun g hg => ?_, fun hg => ?_,
        htakes.requests_spec hkept (Part.kept_stopAll hkept hagrees).1.listed.1⟩
      · rw [hstaged, hg]
        cases hany : p.books.records.any fun b => p.haltStrikes b && b.state != .closing && b.id == g.id with
        | true => exact ((if_pos hany).trans (by simp [Option.filter, hany])).symm
        | false => exact ((if_neg (Bool.eq_false_iff.1 hany)).trans (by simp [Option.filter, hany])).symm
      · rw [hstaged, hg]
        rfl
    · rw [hq]
      simp
  · exact (Part.raise_in_halt hl).trans (Part.noteSecondary_first hs)
  · exact (Part.raise_in_halt hl).trans (Part.noteSecondary_more hs)

end Sys2Proof.Machine
end
